-- ==== Sys2Proof/Word.lean ====
section
/-! DEFINITION. The two bit-vector widths of the machine (spec 00_scope.md R6, R7): data bytes of `XLEN = 8`
bits and addresses of `PCLEN = 16` bits. All arithmetic on them wraps modulo the width. -/

namespace Sys2Proof

/-- A data value: an unsigned 8-bit number (00_scope.md R7). -/
abbrev Byte := BitVec 8

/-- An address or the program counter: an unsigned 16-bit number (00_scope.md R7). -/
abbrev Word := BitVec 16

end Sys2Proof
end

