-- ==== Sys2Proof/Syntax.lean ====
section
/-! DEFINITION. The syntax of the instruction set: one constructor of `Instr` per row of
spec/opcode_table.json (30_encoding.md R121): those with operand bytes first, in the order of the opcode
byte, then those without. A constructor is named by its
mnemonic and addressing mode (`ldaZpx`), and where several bytes share both, by its opcode byte as well
(`jam02`, `nopZp04`). An operand byte is the field `d8` of R100: an immediate value, a zero-page address, a
pointer address or a branch displacement. A 16-bit operand is `{hi, lo}` (R103). Every value of either is a
legal operand (R103, R104). -/

namespace Sys2Proof

/-- The addressing modes with a memory operand (30_encoding.md R101), each with its operand bytes. -/
inductive MemMode where
  /-- R109: memory at `{$00, d8}`. -/
  | zp (d : Byte)
  /-- R110: memory at `{$00, d8 + X}`. -/
  | zpx (d : Byte)
  /-- R111: memory at `{$00, d8 + Y}`. -/
  | zpy (d : Byte)
  /-- R112: memory at `{hi, lo}`. -/
  | abs (w : Word)
  /-- R113: memory at `{hi, lo} + X`. -/
  | abx (w : Word)
  /-- R114: memory at `{hi, lo} + Y`. -/
  | aby (w : Word)
  /-- R115: memory at the address stored at `{$00, d8 + X}`. -/
  | izx (d : Byte)
  /-- R116: memory at the address stored at `{$00, d8}`, plus `Y`. -/
  | izy (d : Byte)
deriving DecidableEq, Repr

/-- The operand of a Read-kind instruction (30_encoding.md R105): the immediate byte (R108) or a byte of
memory. -/
inductive Src where
  | imm (d : Byte)
  | mem (m : MemMode)
deriving DecidableEq, Repr

/-- The shape an undocumented opcode has under `ILLEGAL_POLICY = Nop` (46_undocumented.md R263). -/
inductive NopForm where
  | imp
  | imm
  | mem (m : MemMode)
deriving DecidableEq, Repr

/-- The instructions, one constructor per row of the opcode table (30_encoding.md R121). -/
inductive Instr where
  | oraIzx (d : Byte)
  | sloIzx (d : Byte)
  | nopZp04 (d : Byte)
  | oraZp (d : Byte)
  | aslZp (d : Byte)
  | sloZp (d : Byte)
  | oraImm (d : Byte)
  | ancImm0B (d : Byte)
  | nopAbs0C (w : Word)
  | oraAbs (w : Word)
  | aslAbs (w : Word)
  | sloAbs (w : Word)
  | bpl (d : Byte)
  | oraIzy (d : Byte)
  | sloIzy (d : Byte)
  | nopZpx14 (d : Byte)
  | oraZpx (d : Byte)
  | aslZpx (d : Byte)
  | sloZpx (d : Byte)
  | oraAby (w : Word)
  | sloAby (w : Word)
  | nopAbx1C (w : Word)
  | oraAbx (w : Word)
  | aslAbx (w : Word)
  | sloAbx (w : Word)
  | jsr (w : Word)
  | andIzx (d : Byte)
  | rlaIzx (d : Byte)
  | bitZp (d : Byte)
  | andZp (d : Byte)
  | rolZp (d : Byte)
  | rlaZp (d : Byte)
  | andImm (d : Byte)
  | ancImm2B (d : Byte)
  | bitAbs (w : Word)
  | andAbs (w : Word)
  | rolAbs (w : Word)
  | rlaAbs (w : Word)
  | bmi (d : Byte)
  | andIzy (d : Byte)
  | rlaIzy (d : Byte)
  | nopZpx34 (d : Byte)
  | andZpx (d : Byte)
  | rolZpx (d : Byte)
  | rlaZpx (d : Byte)
  | andAby (w : Word)
  | rlaAby (w : Word)
  | nopAbx3C (w : Word)
  | andAbx (w : Word)
  | rolAbx (w : Word)
  | rlaAbx (w : Word)
  | eorIzx (d : Byte)
  | sreIzx (d : Byte)
  | nopZp44 (d : Byte)
  | eorZp (d : Byte)
  | lsrZp (d : Byte)
  | sreZp (d : Byte)
  | eorImm (d : Byte)
  | alrImm (d : Byte)
  | jmpAbs (w : Word)
  | eorAbs (w : Word)
  | lsrAbs (w : Word)
  | sreAbs (w : Word)
  | bvc (d : Byte)
  | eorIzy (d : Byte)
  | sreIzy (d : Byte)
  | nopZpx54 (d : Byte)
  | eorZpx (d : Byte)
  | lsrZpx (d : Byte)
  | sreZpx (d : Byte)
  | eorAby (w : Word)
  | sreAby (w : Word)
  | nopAbx5C (w : Word)
  | eorAbx (w : Word)
  | lsrAbx (w : Word)
  | sreAbx (w : Word)
  | adcIzx (d : Byte)
  | rraIzx (d : Byte)
  | nopZp64 (d : Byte)
  | adcZp (d : Byte)
  | rorZp (d : Byte)
  | rraZp (d : Byte)
  | adcImm (d : Byte)
  | arrImm (d : Byte)
  | jmpInd (w : Word)
  | adcAbs (w : Word)
  | rorAbs (w : Word)
  | rraAbs (w : Word)
  | bvs (d : Byte)
  | adcIzy (d : Byte)
  | rraIzy (d : Byte)
  | nopZpx74 (d : Byte)
  | adcZpx (d : Byte)
  | rorZpx (d : Byte)
  | rraZpx (d : Byte)
  | adcAby (w : Word)
  | rraAby (w : Word)
  | nopAbx7C (w : Word)
  | adcAbx (w : Word)
  | rorAbx (w : Word)
  | rraAbx (w : Word)
  | nopImm80 (d : Byte)
  | staIzx (d : Byte)
  | nopImm82 (d : Byte)
  | saxIzx (d : Byte)
  | styZp (d : Byte)
  | staZp (d : Byte)
  | stxZp (d : Byte)
  | saxZp (d : Byte)
  | nopImm89 (d : Byte)
  | aneImm (d : Byte)
  | styAbs (w : Word)
  | staAbs (w : Word)
  | stxAbs (w : Word)
  | saxAbs (w : Word)
  | bcc (d : Byte)
  | staIzy (d : Byte)
  | shaIzy (d : Byte)
  | styZpx (d : Byte)
  | staZpx (d : Byte)
  | stxZpy (d : Byte)
  | saxZpy (d : Byte)
  | staAby (w : Word)
  | tasAby (w : Word)
  | shyAbx (w : Word)
  | staAbx (w : Word)
  | shxAby (w : Word)
  | shaAby (w : Word)
  | ldyImm (d : Byte)
  | ldaIzx (d : Byte)
  | ldxImm (d : Byte)
  | laxIzx (d : Byte)
  | ldyZp (d : Byte)
  | ldaZp (d : Byte)
  | ldxZp (d : Byte)
  | laxZp (d : Byte)
  | ldaImm (d : Byte)
  | lxaImm (d : Byte)
  | ldyAbs (w : Word)
  | ldaAbs (w : Word)
  | ldxAbs (w : Word)
  | laxAbs (w : Word)
  | bcs (d : Byte)
  | ldaIzy (d : Byte)
  | laxIzy (d : Byte)
  | ldyZpx (d : Byte)
  | ldaZpx (d : Byte)
  | ldxZpy (d : Byte)
  | laxZpy (d : Byte)
  | ldaAby (w : Word)
  | lasAby (w : Word)
  | ldyAbx (w : Word)
  | ldaAbx (w : Word)
  | ldxAby (w : Word)
  | laxAby (w : Word)
  | cpyImm (d : Byte)
  | cmpIzx (d : Byte)
  | nopImmC2 (d : Byte)
  | dcpIzx (d : Byte)
  | cpyZp (d : Byte)
  | cmpZp (d : Byte)
  | decZp (d : Byte)
  | dcpZp (d : Byte)
  | cmpImm (d : Byte)
  | sbxImm (d : Byte)
  | cpyAbs (w : Word)
  | cmpAbs (w : Word)
  | decAbs (w : Word)
  | dcpAbs (w : Word)
  | bne (d : Byte)
  | cmpIzy (d : Byte)
  | dcpIzy (d : Byte)
  | nopZpxD4 (d : Byte)
  | cmpZpx (d : Byte)
  | decZpx (d : Byte)
  | dcpZpx (d : Byte)
  | cmpAby (w : Word)
  | dcpAby (w : Word)
  | nopAbxDC (w : Word)
  | cmpAbx (w : Word)
  | decAbx (w : Word)
  | dcpAbx (w : Word)
  | cpxImm (d : Byte)
  | sbcIzx (d : Byte)
  | nopImmE2 (d : Byte)
  | iscIzx (d : Byte)
  | cpxZp (d : Byte)
  | sbcZp (d : Byte)
  | incZp (d : Byte)
  | iscZp (d : Byte)
  | sbcImm (d : Byte)
  | sbcImmEB (d : Byte)
  | cpxAbs (w : Word)
  | sbcAbs (w : Word)
  | incAbs (w : Word)
  | iscAbs (w : Word)
  | beq (d : Byte)
  | sbcIzy (d : Byte)
  | iscIzy (d : Byte)
  | nopZpxF4 (d : Byte)
  | sbcZpx (d : Byte)
  | incZpx (d : Byte)
  | iscZpx (d : Byte)
  | sbcAby (w : Word)
  | iscAby (w : Word)
  | nopAbxFC (w : Word)
  | sbcAbx (w : Word)
  | incAbx (w : Word)
  | iscAbx (w : Word)
  | brk
  | jam02
  | php
  | aslAcc
  | jam12
  | clc
  | nopImp1A
  | jam22
  | plp
  | rolAcc
  | jam32
  | sec
  | nopImp3A
  | rti
  | jam42
  | pha
  | lsrAcc
  | jam52
  | cli
  | nopImp5A
  | rts
  | jam62
  | pla
  | rorAcc
  | jam72
  | sei
  | nopImp7A
  | dey
  | txa
  | jam92
  | tya
  | txs
  | tay
  | tax
  | jamB2
  | clv
  | tsx
  | iny
  | dex
  | jamD2
  | cld
  | nopImpDA
  | inx
  | nop
  | jamF2
  | sed
  | nopImpFA
deriving DecidableEq, Repr

end Sys2Proof
end

