-- ==== Sys2Proof/Decode.lean ====
section
/-! DEFINITION. The decoder and the encoder (30_encoding.md R100 to R104, R121). Decoding reads the opcode
byte, which alone selects the row and the length; it is total, and the only byte strings it rejects are those
that end before the instruction does, each by a name of its own. -/

namespace Sys2Proof

/-- The 16-bit value `{hi, lo}` (00_scope.md R7): the little-endian pair of 20_memory.md R65. -/
def wordOf (hi lo : Byte) : Word := hi ++ lo

/-- `lo(w)`, bits 7 to 0 (00_scope.md R7). -/
def loByte (w : Word) : Byte := w.extractLsb' 0 8

/-- `hi(w)`, bits 15 to 8 (00_scope.md R7). -/
def hiByte (w : Word) : Byte := w.extractLsb' 8 8

/-! The opcode map, one function a row of the 16 x 16 table of 30_encoding.md R121: the argument is the low
nibble of the opcode byte, then the two bytes that follow it. -/

def decodeRow0 (col : Nat) (b1 b2 : Byte) : Instr :=
  match col with
  | 0x0 => .brk
  | 0x1 => .oraIzx b1
  | 0x2 => .jam02
  | 0x3 => .sloIzx b1
  | 0x4 => .nopZp04 b1
  | 0x5 => .oraZp b1
  | 0x6 => .aslZp b1
  | 0x7 => .sloZp b1
  | 0x8 => .php
  | 0x9 => .oraImm b1
  | 0xA => .aslAcc
  | 0xB => .ancImm0B b1
  | 0xC => .nopAbs0C (wordOf b2 b1)
  | 0xD => .oraAbs (wordOf b2 b1)
  | 0xE => .aslAbs (wordOf b2 b1)
  | _ => .sloAbs (wordOf b2 b1)

def decodeRow1 (col : Nat) (b1 b2 : Byte) : Instr :=
  match col with
  | 0x0 => .bpl b1
  | 0x1 => .oraIzy b1
  | 0x2 => .jam12
  | 0x3 => .sloIzy b1
  | 0x4 => .nopZpx14 b1
  | 0x5 => .oraZpx b1
  | 0x6 => .aslZpx b1
  | 0x7 => .sloZpx b1
  | 0x8 => .clc
  | 0x9 => .oraAby (wordOf b2 b1)
  | 0xA => .nopImp1A
  | 0xB => .sloAby (wordOf b2 b1)
  | 0xC => .nopAbx1C (wordOf b2 b1)
  | 0xD => .oraAbx (wordOf b2 b1)
  | 0xE => .aslAbx (wordOf b2 b1)
  | _ => .sloAbx (wordOf b2 b1)

def decodeRow2 (col : Nat) (b1 b2 : Byte) : Instr :=
  match col with
  | 0x0 => .jsr (wordOf b2 b1)
  | 0x1 => .andIzx b1
  | 0x2 => .jam22
  | 0x3 => .rlaIzx b1
  | 0x4 => .bitZp b1
  | 0x5 => .andZp b1
  | 0x6 => .rolZp b1
  | 0x7 => .rlaZp b1
  | 0x8 => .plp
  | 0x9 => .andImm b1
  | 0xA => .rolAcc
  | 0xB => .ancImm2B b1
  | 0xC => .bitAbs (wordOf b2 b1)
  | 0xD => .andAbs (wordOf b2 b1)
  | 0xE => .rolAbs (wordOf b2 b1)
  | _ => .rlaAbs (wordOf b2 b1)

def decodeRow3 (col : Nat) (b1 b2 : Byte) : Instr :=
  match col with
  | 0x0 => .bmi b1
  | 0x1 => .andIzy b1
  | 0x2 => .jam32
  | 0x3 => .rlaIzy b1
  | 0x4 => .nopZpx34 b1
  | 0x5 => .andZpx b1
  | 0x6 => .rolZpx b1
  | 0x7 => .rlaZpx b1
  | 0x8 => .sec
  | 0x9 => .andAby (wordOf b2 b1)
  | 0xA => .nopImp3A
  | 0xB => .rlaAby (wordOf b2 b1)
  | 0xC => .nopAbx3C (wordOf b2 b1)
  | 0xD => .andAbx (wordOf b2 b1)
  | 0xE => .rolAbx (wordOf b2 b1)
  | _ => .rlaAbx (wordOf b2 b1)

def decodeRow4 (col : Nat) (b1 b2 : Byte) : Instr :=
  match col with
  | 0x0 => .rti
  | 0x1 => .eorIzx b1
  | 0x2 => .jam42
  | 0x3 => .sreIzx b1
  | 0x4 => .nopZp44 b1
  | 0x5 => .eorZp b1
  | 0x6 => .lsrZp b1
  | 0x7 => .sreZp b1
  | 0x8 => .pha
  | 0x9 => .eorImm b1
  | 0xA => .lsrAcc
  | 0xB => .alrImm b1
  | 0xC => .jmpAbs (wordOf b2 b1)
  | 0xD => .eorAbs (wordOf b2 b1)
  | 0xE => .lsrAbs (wordOf b2 b1)
  | _ => .sreAbs (wordOf b2 b1)

def decodeRow5 (col : Nat) (b1 b2 : Byte) : Instr :=
  match col with
  | 0x0 => .bvc b1
  | 0x1 => .eorIzy b1
  | 0x2 => .jam52
  | 0x3 => .sreIzy b1
  | 0x4 => .nopZpx54 b1
  | 0x5 => .eorZpx b1
  | 0x6 => .lsrZpx b1
  | 0x7 => .sreZpx b1
  | 0x8 => .cli
  | 0x9 => .eorAby (wordOf b2 b1)
  | 0xA => .nopImp5A
  | 0xB => .sreAby (wordOf b2 b1)
  | 0xC => .nopAbx5C (wordOf b2 b1)
  | 0xD => .eorAbx (wordOf b2 b1)
  | 0xE => .lsrAbx (wordOf b2 b1)
  | _ => .sreAbx (wordOf b2 b1)

def decodeRow6 (col : Nat) (b1 b2 : Byte) : Instr :=
  match col with
  | 0x0 => .rts
  | 0x1 => .adcIzx b1
  | 0x2 => .jam62
  | 0x3 => .rraIzx b1
  | 0x4 => .nopZp64 b1
  | 0x5 => .adcZp b1
  | 0x6 => .rorZp b1
  | 0x7 => .rraZp b1
  | 0x8 => .pla
  | 0x9 => .adcImm b1
  | 0xA => .rorAcc
  | 0xB => .arrImm b1
  | 0xC => .jmpInd (wordOf b2 b1)
  | 0xD => .adcAbs (wordOf b2 b1)
  | 0xE => .rorAbs (wordOf b2 b1)
  | _ => .rraAbs (wordOf b2 b1)

def decodeRow7 (col : Nat) (b1 b2 : Byte) : Instr :=
  match col with
  | 0x0 => .bvs b1
  | 0x1 => .adcIzy b1
  | 0x2 => .jam72
  | 0x3 => .rraIzy b1
  | 0x4 => .nopZpx74 b1
  | 0x5 => .adcZpx b1
  | 0x6 => .rorZpx b1
  | 0x7 => .rraZpx b1
  | 0x8 => .sei
  | 0x9 => .adcAby (wordOf b2 b1)
  | 0xA => .nopImp7A
  | 0xB => .rraAby (wordOf b2 b1)
  | 0xC => .nopAbx7C (wordOf b2 b1)
  | 0xD => .adcAbx (wordOf b2 b1)
  | 0xE => .rorAbx (wordOf b2 b1)
  | _ => .rraAbx (wordOf b2 b1)

def decodeRow8 (col : Nat) (b1 b2 : Byte) : Instr :=
  match col with
  | 0x0 => .nopImm80 b1
  | 0x1 => .staIzx b1
  | 0x2 => .nopImm82 b1
  | 0x3 => .saxIzx b1
  | 0x4 => .styZp b1
  | 0x5 => .staZp b1
  | 0x6 => .stxZp b1
  | 0x7 => .saxZp b1
  | 0x8 => .dey
  | 0x9 => .nopImm89 b1
  | 0xA => .txa
  | 0xB => .aneImm b1
  | 0xC => .styAbs (wordOf b2 b1)
  | 0xD => .staAbs (wordOf b2 b1)
  | 0xE => .stxAbs (wordOf b2 b1)
  | _ => .saxAbs (wordOf b2 b1)

def decodeRow9 (col : Nat) (b1 b2 : Byte) : Instr :=
  match col with
  | 0x0 => .bcc b1
  | 0x1 => .staIzy b1
  | 0x2 => .jam92
  | 0x3 => .shaIzy b1
  | 0x4 => .styZpx b1
  | 0x5 => .staZpx b1
  | 0x6 => .stxZpy b1
  | 0x7 => .saxZpy b1
  | 0x8 => .tya
  | 0x9 => .staAby (wordOf b2 b1)
  | 0xA => .txs
  | 0xB => .tasAby (wordOf b2 b1)
  | 0xC => .shyAbx (wordOf b2 b1)
  | 0xD => .staAbx (wordOf b2 b1)
  | 0xE => .shxAby (wordOf b2 b1)
  | _ => .shaAby (wordOf b2 b1)

def decodeRowA (col : Nat) (b1 b2 : Byte) : Instr :=
  match col with
  | 0x0 => .ldyImm b1
  | 0x1 => .ldaIzx b1
  | 0x2 => .ldxImm b1
  | 0x3 => .laxIzx b1
  | 0x4 => .ldyZp b1
  | 0x5 => .ldaZp b1
  | 0x6 => .ldxZp b1
  | 0x7 => .laxZp b1
  | 0x8 => .tay
  | 0x9 => .ldaImm b1
  | 0xA => .tax
  | 0xB => .lxaImm b1
  | 0xC => .ldyAbs (wordOf b2 b1)
  | 0xD => .ldaAbs (wordOf b2 b1)
  | 0xE => .ldxAbs (wordOf b2 b1)
  | _ => .laxAbs (wordOf b2 b1)

def decodeRowB (col : Nat) (b1 b2 : Byte) : Instr :=
  match col with
  | 0x0 => .bcs b1
  | 0x1 => .ldaIzy b1
  | 0x2 => .jamB2
  | 0x3 => .laxIzy b1
  | 0x4 => .ldyZpx b1
  | 0x5 => .ldaZpx b1
  | 0x6 => .ldxZpy b1
  | 0x7 => .laxZpy b1
  | 0x8 => .clv
  | 0x9 => .ldaAby (wordOf b2 b1)
  | 0xA => .tsx
  | 0xB => .lasAby (wordOf b2 b1)
  | 0xC => .ldyAbx (wordOf b2 b1)
  | 0xD => .ldaAbx (wordOf b2 b1)
  | 0xE => .ldxAby (wordOf b2 b1)
  | _ => .laxAby (wordOf b2 b1)

def decodeRowC (col : Nat) (b1 b2 : Byte) : Instr :=
  match col with
  | 0x0 => .cpyImm b1
  | 0x1 => .cmpIzx b1
  | 0x2 => .nopImmC2 b1
  | 0x3 => .dcpIzx b1
  | 0x4 => .cpyZp b1
  | 0x5 => .cmpZp b1
  | 0x6 => .decZp b1
  | 0x7 => .dcpZp b1
  | 0x8 => .iny
  | 0x9 => .cmpImm b1
  | 0xA => .dex
  | 0xB => .sbxImm b1
  | 0xC => .cpyAbs (wordOf b2 b1)
  | 0xD => .cmpAbs (wordOf b2 b1)
  | 0xE => .decAbs (wordOf b2 b1)
  | _ => .dcpAbs (wordOf b2 b1)

def decodeRowD (col : Nat) (b1 b2 : Byte) : Instr :=
  match col with
  | 0x0 => .bne b1
  | 0x1 => .cmpIzy b1
  | 0x2 => .jamD2
  | 0x3 => .dcpIzy b1
  | 0x4 => .nopZpxD4 b1
  | 0x5 => .cmpZpx b1
  | 0x6 => .decZpx b1
  | 0x7 => .dcpZpx b1
  | 0x8 => .cld
  | 0x9 => .cmpAby (wordOf b2 b1)
  | 0xA => .nopImpDA
  | 0xB => .dcpAby (wordOf b2 b1)
  | 0xC => .nopAbxDC (wordOf b2 b1)
  | 0xD => .cmpAbx (wordOf b2 b1)
  | 0xE => .decAbx (wordOf b2 b1)
  | _ => .dcpAbx (wordOf b2 b1)

def decodeRowE (col : Nat) (b1 b2 : Byte) : Instr :=
  match col with
  | 0x0 => .cpxImm b1
  | 0x1 => .sbcIzx b1
  | 0x2 => .nopImmE2 b1
  | 0x3 => .iscIzx b1
  | 0x4 => .cpxZp b1
  | 0x5 => .sbcZp b1
  | 0x6 => .incZp b1
  | 0x7 => .iscZp b1
  | 0x8 => .inx
  | 0x9 => .sbcImm b1
  | 0xA => .nop
  | 0xB => .sbcImmEB b1
  | 0xC => .cpxAbs (wordOf b2 b1)
  | 0xD => .sbcAbs (wordOf b2 b1)
  | 0xE => .incAbs (wordOf b2 b1)
  | _ => .iscAbs (wordOf b2 b1)

def decodeRowF (col : Nat) (b1 b2 : Byte) : Instr :=
  match col with
  | 0x0 => .beq b1
  | 0x1 => .sbcIzy b1
  | 0x2 => .jamF2
  | 0x3 => .iscIzy b1
  | 0x4 => .nopZpxF4 b1
  | 0x5 => .sbcZpx b1
  | 0x6 => .incZpx b1
  | 0x7 => .iscZpx b1
  | 0x8 => .sed
  | 0x9 => .sbcAby (wordOf b2 b1)
  | 0xA => .nopImpFA
  | 0xB => .iscAby (wordOf b2 b1)
  | 0xC => .nopAbxFC (wordOf b2 b1)
  | 0xD => .sbcAbx (wordOf b2 b1)
  | 0xE => .incAbx (wordOf b2 b1)
  | _ => .iscAbx (wordOf b2 b1)

/-- The instruction whose opcode byte is `op` and whose operand bytes are read from `b1` and `b2`; bytes the
length does not cover are not used (30_encoding.md R100, R104). -/
def decodeBytes (op b1 b2 : Byte) : Instr :=
  let col := (op.extractLsb' 0 4).toNat
  match (op.extractLsb' 4 4).toNat with
  | 0x0 => decodeRow0 col b1 b2
  | 0x1 => decodeRow1 col b1 b2
  | 0x2 => decodeRow2 col b1 b2
  | 0x3 => decodeRow3 col b1 b2
  | 0x4 => decodeRow4 col b1 b2
  | 0x5 => decodeRow5 col b1 b2
  | 0x6 => decodeRow6 col b1 b2
  | 0x7 => decodeRow7 col b1 b2
  | 0x8 => decodeRow8 col b1 b2
  | 0x9 => decodeRow9 col b1 b2
  | 0xA => decodeRowA col b1 b2
  | 0xB => decodeRowB col b1 b2
  | 0xC => decodeRowC col b1 b2
  | 0xD => decodeRowD col b1 b2
  | 0xE => decodeRowE col b1 b2
  | _ => decodeRowF col b1 b2

/-- Length in bytes as a function of the opcode byte alone (30_encoding.md R101, R104), by columns and rows of
the map. -/
def opcodeLength (op : Byte) : Nat :=
  let row := (op.extractLsb' 4 4).toNat
  match (op.extractLsb' 0 4).toNat with
  | 0x0 =>
    if row = 0x2 then 3
    else if row = 0x0 ∨ row = 0x4 ∨ row = 0x6 then 1
    else 2
  | 0x2 => if row = 0x8 ∨ row = 0xA ∨ row = 0xC ∨ row = 0xE then 2 else 1
  | 0x8 => 1
  | 0x9 | 0xB => if row % 2 = 0 then 2 else 3
  | 0xA => 1
  | 0xC | 0xD | 0xE | 0xF => 3
  | _ => 2

/-- Why a byte string is no instruction. -/
inductive DecodeError where
  /-- there is no opcode byte -/
  | noOpcode
  /-- the string ends before the operand bytes of its opcode byte -/
  | truncated (opcode : Byte)
deriving DecidableEq, Repr

/-- Decode the first instruction of a byte string and return the bytes after it. -/
def decode : List Byte → Except DecodeError (Instr × List Byte)
  | [] => .error .noOpcode
  | op :: rest =>
    match opcodeLength op, rest with
    | 1, rest => .ok (decodeBytes op 0 0, rest)
    | 2, b1 :: rest => .ok (decodeBytes op b1 0, rest)
    | 3, b1 :: b2 :: rest => .ok (decodeBytes op b1 b2, rest)
    | _, _ => .error (.truncated op)

/-- The bytes of a one-, two- and three-byte instruction (30_encoding.md R100): the low operand byte first. -/
def bytes1 (op : Byte) : List Byte := [op]
def bytes2 (op d : Byte) : List Byte := [op, d]
def bytes3 (op : Byte) (w : Word) : List Byte := [op, loByte w, hiByte w]

/-- The bytes of an instruction, from the opcode map of 30_encoding.md R121 to R123. -/
def encode : Instr → List Byte
  | .brk => bytes1 0x00
  | .oraIzx d => bytes2 0x01 d
  | .jam02 => bytes1 0x02
  | .sloIzx d => bytes2 0x03 d
  | .nopZp04 d => bytes2 0x04 d
  | .oraZp d => bytes2 0x05 d
  | .aslZp d => bytes2 0x06 d
  | .sloZp d => bytes2 0x07 d
  | .php => bytes1 0x08
  | .oraImm d => bytes2 0x09 d
  | .aslAcc => bytes1 0x0A
  | .ancImm0B d => bytes2 0x0B d
  | .nopAbs0C w => bytes3 0x0C w
  | .oraAbs w => bytes3 0x0D w
  | .aslAbs w => bytes3 0x0E w
  | .sloAbs w => bytes3 0x0F w
  | .bpl d => bytes2 0x10 d
  | .oraIzy d => bytes2 0x11 d
  | .jam12 => bytes1 0x12
  | .sloIzy d => bytes2 0x13 d
  | .nopZpx14 d => bytes2 0x14 d
  | .oraZpx d => bytes2 0x15 d
  | .aslZpx d => bytes2 0x16 d
  | .sloZpx d => bytes2 0x17 d
  | .clc => bytes1 0x18
  | .oraAby w => bytes3 0x19 w
  | .nopImp1A => bytes1 0x1A
  | .sloAby w => bytes3 0x1B w
  | .nopAbx1C w => bytes3 0x1C w
  | .oraAbx w => bytes3 0x1D w
  | .aslAbx w => bytes3 0x1E w
  | .sloAbx w => bytes3 0x1F w
  | .jsr w => bytes3 0x20 w
  | .andIzx d => bytes2 0x21 d
  | .jam22 => bytes1 0x22
  | .rlaIzx d => bytes2 0x23 d
  | .bitZp d => bytes2 0x24 d
  | .andZp d => bytes2 0x25 d
  | .rolZp d => bytes2 0x26 d
  | .rlaZp d => bytes2 0x27 d
  | .plp => bytes1 0x28
  | .andImm d => bytes2 0x29 d
  | .rolAcc => bytes1 0x2A
  | .ancImm2B d => bytes2 0x2B d
  | .bitAbs w => bytes3 0x2C w
  | .andAbs w => bytes3 0x2D w
  | .rolAbs w => bytes3 0x2E w
  | .rlaAbs w => bytes3 0x2F w
  | .bmi d => bytes2 0x30 d
  | .andIzy d => bytes2 0x31 d
  | .jam32 => bytes1 0x32
  | .rlaIzy d => bytes2 0x33 d
  | .nopZpx34 d => bytes2 0x34 d
  | .andZpx d => bytes2 0x35 d
  | .rolZpx d => bytes2 0x36 d
  | .rlaZpx d => bytes2 0x37 d
  | .sec => bytes1 0x38
  | .andAby w => bytes3 0x39 w
  | .nopImp3A => bytes1 0x3A
  | .rlaAby w => bytes3 0x3B w
  | .nopAbx3C w => bytes3 0x3C w
  | .andAbx w => bytes3 0x3D w
  | .rolAbx w => bytes3 0x3E w
  | .rlaAbx w => bytes3 0x3F w
  | .rti => bytes1 0x40
  | .eorIzx d => bytes2 0x41 d
  | .jam42 => bytes1 0x42
  | .sreIzx d => bytes2 0x43 d
  | .nopZp44 d => bytes2 0x44 d
  | .eorZp d => bytes2 0x45 d
  | .lsrZp d => bytes2 0x46 d
  | .sreZp d => bytes2 0x47 d
  | .pha => bytes1 0x48
  | .eorImm d => bytes2 0x49 d
  | .lsrAcc => bytes1 0x4A
  | .alrImm d => bytes2 0x4B d
  | .jmpAbs w => bytes3 0x4C w
  | .eorAbs w => bytes3 0x4D w
  | .lsrAbs w => bytes3 0x4E w
  | .sreAbs w => bytes3 0x4F w
  | .bvc d => bytes2 0x50 d
  | .eorIzy d => bytes2 0x51 d
  | .jam52 => bytes1 0x52
  | .sreIzy d => bytes2 0x53 d
  | .nopZpx54 d => bytes2 0x54 d
  | .eorZpx d => bytes2 0x55 d
  | .lsrZpx d => bytes2 0x56 d
  | .sreZpx d => bytes2 0x57 d
  | .cli => bytes1 0x58
  | .eorAby w => bytes3 0x59 w
  | .nopImp5A => bytes1 0x5A
  | .sreAby w => bytes3 0x5B w
  | .nopAbx5C w => bytes3 0x5C w
  | .eorAbx w => bytes3 0x5D w
  | .lsrAbx w => bytes3 0x5E w
  | .sreAbx w => bytes3 0x5F w
  | .rts => bytes1 0x60
  | .adcIzx d => bytes2 0x61 d
  | .jam62 => bytes1 0x62
  | .rraIzx d => bytes2 0x63 d
  | .nopZp64 d => bytes2 0x64 d
  | .adcZp d => bytes2 0x65 d
  | .rorZp d => bytes2 0x66 d
  | .rraZp d => bytes2 0x67 d
  | .pla => bytes1 0x68
  | .adcImm d => bytes2 0x69 d
  | .rorAcc => bytes1 0x6A
  | .arrImm d => bytes2 0x6B d
  | .jmpInd w => bytes3 0x6C w
  | .adcAbs w => bytes3 0x6D w
  | .rorAbs w => bytes3 0x6E w
  | .rraAbs w => bytes3 0x6F w
  | .bvs d => bytes2 0x70 d
  | .adcIzy d => bytes2 0x71 d
  | .jam72 => bytes1 0x72
  | .rraIzy d => bytes2 0x73 d
  | .nopZpx74 d => bytes2 0x74 d
  | .adcZpx d => bytes2 0x75 d
  | .rorZpx d => bytes2 0x76 d
  | .rraZpx d => bytes2 0x77 d
  | .sei => bytes1 0x78
  | .adcAby w => bytes3 0x79 w
  | .nopImp7A => bytes1 0x7A
  | .rraAby w => bytes3 0x7B w
  | .nopAbx7C w => bytes3 0x7C w
  | .adcAbx w => bytes3 0x7D w
  | .rorAbx w => bytes3 0x7E w
  | .rraAbx w => bytes3 0x7F w
  | .nopImm80 d => bytes2 0x80 d
  | .staIzx d => bytes2 0x81 d
  | .nopImm82 d => bytes2 0x82 d
  | .saxIzx d => bytes2 0x83 d
  | .styZp d => bytes2 0x84 d
  | .staZp d => bytes2 0x85 d
  | .stxZp d => bytes2 0x86 d
  | .saxZp d => bytes2 0x87 d
  | .dey => bytes1 0x88
  | .nopImm89 d => bytes2 0x89 d
  | .txa => bytes1 0x8A
  | .aneImm d => bytes2 0x8B d
  | .styAbs w => bytes3 0x8C w
  | .staAbs w => bytes3 0x8D w
  | .stxAbs w => bytes3 0x8E w
  | .saxAbs w => bytes3 0x8F w
  | .bcc d => bytes2 0x90 d
  | .staIzy d => bytes2 0x91 d
  | .jam92 => bytes1 0x92
  | .shaIzy d => bytes2 0x93 d
  | .styZpx d => bytes2 0x94 d
  | .staZpx d => bytes2 0x95 d
  | .stxZpy d => bytes2 0x96 d
  | .saxZpy d => bytes2 0x97 d
  | .tya => bytes1 0x98
  | .staAby w => bytes3 0x99 w
  | .txs => bytes1 0x9A
  | .tasAby w => bytes3 0x9B w
  | .shyAbx w => bytes3 0x9C w
  | .staAbx w => bytes3 0x9D w
  | .shxAby w => bytes3 0x9E w
  | .shaAby w => bytes3 0x9F w
  | .ldyImm d => bytes2 0xA0 d
  | .ldaIzx d => bytes2 0xA1 d
  | .ldxImm d => bytes2 0xA2 d
  | .laxIzx d => bytes2 0xA3 d
  | .ldyZp d => bytes2 0xA4 d
  | .ldaZp d => bytes2 0xA5 d
  | .ldxZp d => bytes2 0xA6 d
  | .laxZp d => bytes2 0xA7 d
  | .tay => bytes1 0xA8
  | .ldaImm d => bytes2 0xA9 d
  | .tax => bytes1 0xAA
  | .lxaImm d => bytes2 0xAB d
  | .ldyAbs w => bytes3 0xAC w
  | .ldaAbs w => bytes3 0xAD w
  | .ldxAbs w => bytes3 0xAE w
  | .laxAbs w => bytes3 0xAF w
  | .bcs d => bytes2 0xB0 d
  | .ldaIzy d => bytes2 0xB1 d
  | .jamB2 => bytes1 0xB2
  | .laxIzy d => bytes2 0xB3 d
  | .ldyZpx d => bytes2 0xB4 d
  | .ldaZpx d => bytes2 0xB5 d
  | .ldxZpy d => bytes2 0xB6 d
  | .laxZpy d => bytes2 0xB7 d
  | .clv => bytes1 0xB8
  | .ldaAby w => bytes3 0xB9 w
  | .tsx => bytes1 0xBA
  | .lasAby w => bytes3 0xBB w
  | .ldyAbx w => bytes3 0xBC w
  | .ldaAbx w => bytes3 0xBD w
  | .ldxAby w => bytes3 0xBE w
  | .laxAby w => bytes3 0xBF w
  | .cpyImm d => bytes2 0xC0 d
  | .cmpIzx d => bytes2 0xC1 d
  | .nopImmC2 d => bytes2 0xC2 d
  | .dcpIzx d => bytes2 0xC3 d
  | .cpyZp d => bytes2 0xC4 d
  | .cmpZp d => bytes2 0xC5 d
  | .decZp d => bytes2 0xC6 d
  | .dcpZp d => bytes2 0xC7 d
  | .iny => bytes1 0xC8
  | .cmpImm d => bytes2 0xC9 d
  | .dex => bytes1 0xCA
  | .sbxImm d => bytes2 0xCB d
  | .cpyAbs w => bytes3 0xCC w
  | .cmpAbs w => bytes3 0xCD w
  | .decAbs w => bytes3 0xCE w
  | .dcpAbs w => bytes3 0xCF w
  | .bne d => bytes2 0xD0 d
  | .cmpIzy d => bytes2 0xD1 d
  | .jamD2 => bytes1 0xD2
  | .dcpIzy d => bytes2 0xD3 d
  | .nopZpxD4 d => bytes2 0xD4 d
  | .cmpZpx d => bytes2 0xD5 d
  | .decZpx d => bytes2 0xD6 d
  | .dcpZpx d => bytes2 0xD7 d
  | .cld => bytes1 0xD8
  | .cmpAby w => bytes3 0xD9 w
  | .nopImpDA => bytes1 0xDA
  | .dcpAby w => bytes3 0xDB w
  | .nopAbxDC w => bytes3 0xDC w
  | .cmpAbx w => bytes3 0xDD w
  | .decAbx w => bytes3 0xDE w
  | .dcpAbx w => bytes3 0xDF w
  | .cpxImm d => bytes2 0xE0 d
  | .sbcIzx d => bytes2 0xE1 d
  | .nopImmE2 d => bytes2 0xE2 d
  | .iscIzx d => bytes2 0xE3 d
  | .cpxZp d => bytes2 0xE4 d
  | .sbcZp d => bytes2 0xE5 d
  | .incZp d => bytes2 0xE6 d
  | .iscZp d => bytes2 0xE7 d
  | .inx => bytes1 0xE8
  | .sbcImm d => bytes2 0xE9 d
  | .nop => bytes1 0xEA
  | .sbcImmEB d => bytes2 0xEB d
  | .cpxAbs w => bytes3 0xEC w
  | .sbcAbs w => bytes3 0xED w
  | .incAbs w => bytes3 0xEE w
  | .iscAbs w => bytes3 0xEF w
  | .beq d => bytes2 0xF0 d
  | .sbcIzy d => bytes2 0xF1 d
  | .jamF2 => bytes1 0xF2
  | .iscIzy d => bytes2 0xF3 d
  | .nopZpxF4 d => bytes2 0xF4 d
  | .sbcZpx d => bytes2 0xF5 d
  | .incZpx d => bytes2 0xF6 d
  | .iscZpx d => bytes2 0xF7 d
  | .sed => bytes1 0xF8
  | .sbcAby w => bytes3 0xF9 w
  | .nopImpFA => bytes1 0xFA
  | .iscAby w => bytes3 0xFB w
  | .nopAbxFC w => bytes3 0xFC w
  | .sbcAbx w => bytes3 0xFD w
  | .incAbx w => bytes3 0xFE w
  | .iscAbx w => bytes3 0xFF w

/-- The instruction of a row of spec/opcode_table.json whose bits are `w`, of which the table gives `nbits`:
byte `k` of the instruction is bits `8k+7` to `8k` of `w`, the bits above `nbits` are zero, and bytes lie in
memory in that order. -/
def decodeTableWord (nbits w : Nat) : Option Instr :=
  let v := w % 2 ^ nbits
  match decode [BitVec.ofNat 8 v, BitVec.ofNat 8 (v / 2 ^ 8), BitVec.ofNat 8 (v / 2 ^ 16)] with
  | .ok (i, _) => some i
  | .error _ => none

end Sys2Proof
end

