-- ==== Sys2Proof/Config.lean ====
section
/-! DEFINITION. What an implementation fixes (00_scope.md R6) and the free values of the spec.

A parameter whose values the spec lists is data in `Params`, which the machine's state carries unchanged
(log 4), so that a statement about every state holds for every value. A value that the spec leaves open
(a draw, a ROM image, a table it does not give) is an `opaque` constant with no body: nothing can be proved
of it. A draw is applied to a counter held in the state, so that each execution or read has a fresh one. -/

namespace Sys2Proof

/-- Treatment of the 105 undocumented opcode bytes, `ILLEGAL_POLICY` (46_undocumented.md R240, D1). -/
inductive IllegalPolicy where
  | quirk
  | nop
deriving DecidableEq, Repr

/-- `VIDEO_STANDARD` (60_exceptions.md R332, D9). -/
inductive VideoStandard where
  | pal
  | ntsc
deriving DecidableEq, Repr

/-- The parameters of 00_scope.md R6 whose values the spec lists. No step changes them. -/
structure Params where
  /-- `ILLEGAL_POLICY`, OPEN (D1). -/
  illegalPolicy : IllegalPolicy
  /-- `ROM_WRITE_THROUGH` (D3): whether a write to a ROM-backed address reaches the RAM under it. -/
  romWriteThrough : Bool
  /-- `PORT_EXT` (D7): external level of the six processor-port pins. -/
  portExt : BitVec 6
  /-- `VIDEO_STANDARD`, OPEN (D9). -/
  videoStandard : VideoStandard
  /-- `AUDIO_RATE`, OPEN (D13): host audio samples a second. -/
  audioRate : Nat
deriving DecidableEq, Repr

/-- The values 00_scope.md R6 recommends (DESIGN CHOICE, log 4: the spec leaves the OPEN ones to the model). -/
def Params.recommended : Params :=
  { illegalPolicy := .quirk, romWriteThrough := false, portExt := 0b010111#6, videoStandard := .pal,
    audioRate := 44100 }

/-- `LINES` (60_exceptions.md R332). -/
def VideoStandard.lines : VideoStandard → Nat
  | .pal => 312
  | .ntsc => 263

/-- `CYCLES_PER_LINE` (60_exceptions.md R332). -/
def VideoStandard.cyclesPerLine : VideoStandard → Nat
  | .pal => 63
  | .ntsc => 65

/-- `CLOCK_HZ` (00_scope.md R6, D9). -/
def VideoStandard.clockHz : VideoStandard → Nat
  | .pal => 985248
  | .ntsc => 1022727

/-- `MAINS_HZ` (60_exceptions.md R358). -/
def VideoStandard.mainsHz : VideoStandard → Nat
  | .pal => 50
  | .ntsc => 60

namespace Config

/-- `ROM_BASIC`, 8192 bytes, any content (D4, log 3). -/
opaque romBasic : BitVec 13 → Byte

/-- `ROM_KERNAL`, 8192 bytes, any content (D4, log 3). -/
opaque romKernal : BitVec 13 → Byte

/-- `ROM_CHARGEN`, 4096 bytes, any content (D4, log 3). -/
opaque romChargen : BitVec 12 → Byte

/-- `OPEN_BUS`: the value the n-th read of an undriven address returns (20_memory.md R70, D8, log 5). -/
opaque openBus : Nat → Byte

/-- `UNSTABLE_CONST`: the constant of the n-th execution of an unstable opcode (46_undocumented.md R256,
R257, D2, log 6). -/
opaque unstableConst : Nat → Byte

/-- `UNSTABLE_AND_H`: whether the n-th execution of SHA, SHX, SHY or TAS applies the high-byte term
(46_undocumented.md R258 to R261, D2, log 6). -/
opaque unstableAndH : Nat → Bool

/-- Which of the values the host has set is seen by the n-th unsynchronised joystick read (U21, log 12). -/
opaque joystickPick : Nat → Nat

/-- What a time-of-day digit pair that is no BCD number in range advances to, and whether it carries: the
spec states no successor (60_exceptions.md R358, log 14). -/
opaque invalidBcdNext : Byte → Byte × Bool

/-- The noise waveform as a function of the shift register: R362 says "eight bits of the shift register" and
not which (log 17). -/
opaque noiseOutput : BitVec 23 → BitVec 12

/-- The waveform when none or several of the four waveform bits are set, which R362 does not define (U8,
log 17): a function of the bits, the accumulator and the shift register, fresh at each tick. -/
opaque otherWaveform : BitVec 4 → BitVec 24 → BitVec 23 → Nat → BitVec 12

/-- What the n-th read of OSC3 returns while the waveform is one that R362 does not define (U8: any value at each
read, log 17). -/
opaque undefinedOsc3 : Nat → Byte

/-- Whether the envelope counter moves in a tick of the attack, given the attack nibble and the counter: the
rate table is missing from the spec (U8, log 17). -/
opaque attackMoves : BitVec 4 → Byte → Nat → Bool

/-- As `attackMoves`, for the decay. -/
opaque decayMoves : BitVec 4 → Byte → Nat → Bool

/-- As `attackMoves`, for the release. -/
opaque releaseMoves : BitVec 4 → Byte → Nat → Bool

/-- The voice that syncs and ring-modulates a voice: R362 names "the syncing voice" and "the ring-modulating
voice" and does not say which they are (log 17). -/
opaque voiceModulator : Fin 3 → Fin 3

/-- The first of the two cycles of a line in which a sprite takes the bus on NTSC, which R341 does not give
(U13, log 18). -/
opaque ntscSpriteCycle : Fin 8 → Nat

/-- Whether those cycles belong to the DMA of the line before, as for sprites 3 to 7 on PAL (U13, log 18). -/
opaque ntscSpriteCarried : Fin 8 → Bool

end Config
end Sys2Proof
end

