-- ==== Sys2Proof/Machine/State.lean ====
section
/-! DEFINITION. The state of the machine as plain data: the CPU (10_state.md R20 to R38), the stores (R34), the
chipset (60_exceptions.md R332, R350, R361), the host's inputs, the lifecycle (R386), and the model's own
fields, each marked so. The ROM images and the free values are Config, not state (R37). -/

namespace Sys2Proof.Machine

/-! ## Stores -/

/-- A store of `w`-bit cells: the cells that do not read as zero, addresses strictly rising. An address that is
not listed reads as zero: for RAM and colour RAM after power-on the recommended `RAM_INIT`
(70_reset_and_hazards.md R402, D5; DESIGN CHOICE, log 1), for a device's register file its reset value
(60_exceptions.md R369). -/
abbrev Memory (w : Nat) := List (Nat × BitVec w)

/-- The addresses of a list rise strictly and all lie above `lo`. -/
def Memory.risingFrom {w : Nat} : Nat → Memory w → Bool
  | _, [] => true
  | lo, (k, _) :: rest => decide (lo ≤ k) && Memory.risingFrom (k + 1) rest

/-- The canonical form: addresses strictly rising, no entry equal to what an unlisted address reads as. -/
def Memory.wf {w : Nat} (m : Memory w) : Bool :=
  Memory.risingFrom 0 m && m.all (fun c => c.2 != 0)

/-! ## CPU -/

/-- The six status flags (10_state.md R25). -/
structure Flags where
  n : Bool
  v : Bool
  d : Bool
  i : Bool
  z : Bool
  c : Bool
deriving DecidableEq, Repr

/-- The interrupts that have a sequence of their own (60_exceptions.md R306). -/
inductive Interrupt where
  | nmi
  | irq
deriving DecidableEq, Repr

/-- The CPU's registers and its hidden state (10_state.md R20, R23, R25, R35). -/
structure Cpu where
  a : Byte
  x : Byte
  y : Byte
  s : Byte
  pc : Word
  p : Flags
  /-- level of the NMI line when last examined -/
  nmiPrev : Bool
  /-- an NMI edge seen and not yet taken -/
  nmiPending : Bool
  /-- the interrupt the next step takes instead of a fetch -/
  intLatch : Option Interrupt
  /-- a JAM opcode has halted the CPU (46_undocumented.md R262) -/
  jammed : Bool
deriving DecidableEq, Repr

/-! ## Video chip -/

/-- The video chip (60_exceptions.md R332). -/
structure Vic where
  /-- the registers that are plain storage, and `$D011` bits 6 to 0 (R334) -/
  regs : Memory 8
  raster : BitVec 9
  /-- cycle within the line, from 1 -/
  rcycle : Nat
  rasterCmp : BitVec 9
  irqLatch : BitVec 4
  irqEnable : BitVec 4
  denSeen : Bool
  /-- `$D01E`, R346 -/
  spriteSprite : Byte
  /-- `$D01F`, R346 -/
  spriteBackground : Byte
deriving DecidableEq, Repr

/-! ## I/O timer chips -/

/-- One timer of a CIA (60_exceptions.md R350, R352, R353). -/
structure Timer where
  counter : BitVec 16
  latch : BitVec 16
  /-- CRA or CRB, bit 4 never set -/
  ctrl : Byte
  /-- the timer underflowed in the latest tick -/
  underflowed : Bool
  /-- the toggle output of R357 -/
  toggle : Bool
deriving DecidableEq, Repr

/-- A time of day in BCD; bit 7 of the hours is PM (60_exceptions.md R350). -/
structure ClockTime where
  tenths : Byte
  seconds : Byte
  minutes : Byte
  hours : Byte
deriving DecidableEq, Repr

/-- The time-of-day clock of a CIA (60_exceptions.md R358). -/
structure Tod where
  clock : ClockTime
  alarm : ClockTime
  /-- what the seconds, minutes and tenths registers read as while `latched` -/
  latch : ClockTime
  latched : Bool
  /-- the hours were written and the tenths not yet -/
  stopped : Bool
  /-- phase of the mains input, in units of `1 / CLOCK_HZ` of an input tick (log 14) -/
  phase : Nat
  /-- input ticks since the latest tenth -/
  ticks : Nat
deriving DecidableEq, Repr

/-- An I/O timer chip (60_exceptions.md R350). -/
structure Cia where
  pra : Byte
  prb : Byte
  ddra : Byte
  ddrb : Byte
  ta : Timer
  tb : Timer
  icrData : BitVec 5
  icrMask : BitVec 5
  /-- the interrupt output, R355 -/
  ir : Bool
  tod : Tod
  sdr : Byte
  /-- timer A underflows until the byte in `sdr` is shifted out, 0 when none is (R359, log 15) -/
  sdrLeft : Nat
deriving DecidableEq, Repr

/-! ## Audio chip -/

/-- The phases of the envelope counter (60_exceptions.md R362). -/
inductive EnvPhase where
  | attack
  | decay
  | release
deriving DecidableEq, Repr

/-- One voice of the audio chip (60_exceptions.md R361, R362). -/
structure Voice where
  freq : BitVec 16
  pw : BitVec 12
  control : Byte
  attackDecay : Byte
  sustainRelease : Byte
  acc : BitVec 24
  noise : BitVec 23
  env : Byte
  phase : EnvPhase
deriving DecidableEq, Repr

/-- The audio chip (60_exceptions.md R361, R362). -/
structure Sid where
  v1 : Voice
  v2 : Voice
  v3 : Voice
  cutoff : BitVec 11
  resFilt : Byte
  modeVol : Byte
  /-- phase of the sample clock, in units of `1 / CLOCK_HZ` of a sample (log 17) -/
  samplePhase : Nat
  /-- the model's own: the ticks made, the number the free waveforms and envelope moves are applied to (log 7) -/
  draws : Nat
deriving DecidableEq, Repr

/-! ## Host side -/

/-- The joystick-state byte of one port, bits 0 to 4 up, down, left, right, fire, 1 = pressed (R354, D19), and
the values the host has replaced since the CPU last read it (U21, log 12). -/
structure Joystick where
  now : BitVec 5
  earlier : List (BitVec 5)
deriving DecidableEq, Repr

/-- What a drive puts on the serial bus (60_exceptions.md R365): an input from outside this machine (log 11). -/
structure DriveLines where
  clkOut : Bool
  dataOut : Bool
  atna : Bool
deriving DecidableEq, Repr

/-- The inputs from outside the emulated machine. No reset touches them (70_reset_and_hazards.md R403). -/
structure Input where
  joy1 : Joystick
  joy2 : Joystick
  /-- the RESTORE key is held (R311) -/
  restore : Bool
  /-- pressed keys, as (row, column) of the matrix (R360) -/
  keys : List (Fin 8 × Fin 8)
  drives : List DriveLines
deriving DecidableEq, Repr

/-- The lifecycle states (60_exceptions.md R386). -/
inductive Lifecycle where
  | stopped
  | running
  | paused
  | warpRunning
  | inMonitor
deriving DecidableEq, Repr

/-- The Monitor's states (60_exceptions.md R380). -/
inductive MonitorState where
  | inactive
  | awaitingCommand
  | executing
deriving DecidableEq, Repr

/-- What a breakpoint or watch observes (60_exceptions.md R382). -/
inductive WatchKind where
  | read
  | write
  | execute
deriving DecidableEq, Repr

/-- A breakpoint or watch (60_exceptions.md R382). -/
structure Breakpoint where
  addr : Word
  kind : WatchKind
  enabled : Bool
deriving DecidableEq, Repr

/-- The registers a Monitor command can write (60_exceptions.md R384). -/
inductive RegName where
  | a
  | x
  | y
  | s
  | p
  | pc
deriving DecidableEq, Repr

/-- The Monitor's commands (60_exceptions.md R380, R382, R384), whatever their text. -/
inductive MonitorCmd where
  | memoryDump (addr : Word) (len : Nat)
  | registerDump
  | addBreakpoint (b : Breakpoint)
  | removeBreakpoint (addr : Word) (kind : WatchKind)
  | singleStep
  | resume
  | listDirectory
  | writeMemory (addr : Word) (v : Byte)
  | writeRegister (r : RegName) (v : Word)
  /-- a line that does not parse -/
  | unparsable
deriving DecidableEq, Repr

/-- The host commands that are queued (60_exceptions.md R386, R387). -/
inductive HostCmd where
  | start
  | pause
  | resume
  | toggleWarp
  | activateMonitor
  | reset (hard : Bool)
  | stop
  /-- mount a disk image, valid or malformed (R373) -/
  | attachDisk (valid : Bool)
  | setResource
  | monitor (c : MonitorCmd)
deriving DecidableEq, Repr

/-- What the machine hands to the host, in order (60_exceptions.md R347, R362, R373, R380). -/
inductive HostEvent where
  | frameReady
  | audioSample (v : Int)
  | memoryDump (addr : Word) (bytes : List Byte)
  | registerDump (a x y s : Byte) (p : Flags) (pc : Word)
  | monitorSyntaxError
  | invalidImageFormat
deriving DecidableEq, Repr

/-- The session's state: lifecycle, Monitor, queue and events (60_exceptions.md R380 to R387). -/
structure Session where
  lifecycle : Lifecycle
  /-- `stop()` has ended the session (R386) -/
  released : Bool
  monitor : MonitorState
  /-- leaving the Monitor resumes WarpRunning and not Running (log 20) -/
  resumeWarp : Bool
  breakpoints : List Breakpoint
  queue : List HostCmd
  /-- latest first -/
  events : List HostEvent
deriving DecidableEq, Repr

/-! ## The machine -/

/-- Kinds of diagnostic records (60_exceptions.md R314, R385). -/
inductive DiagKind where
  | illegalOpcode
deriving DecidableEq, Repr

/-- A record of the diagnostic stream (10_state.md R35; 60_exceptions.md R385). -/
structure Diagnostic where
  kind : DiagKind
  pc : Word
  opcode : Byte
deriving DecidableEq, Repr

/-- One bus access (20_memory.md R74): the value read or written. -/
inductive BusAccess where
  | read (addr : Word) (v : Byte)
  | write (addr : Word) (v : Byte)
deriving DecidableEq, Repr

/-- The model's own: how many draws of each kind have been made (log 7). -/
structure Draws where
  openBus : Nat
  unstable : Nat
  joystick : Nat
  /-- reads of OSC3 with a waveform that is not defined -/
  osc3 : Nat
deriving DecidableEq, Repr

/-- The whole state of the primary machine (10_state.md R37), with the session around it. -/
structure State where
  cpu : Cpu
  /-- the processor port's data direction register, `$0000` (R28) -/
  ddr : Byte
  /-- the processor port's data register, `$0001` (R28) -/
  pr : Byte
  ram : Memory 8
  colorRam : Memory 4
  vic : Vic
  cia1 : Cia
  cia2 : Cia
  sid : Sid
  input : Input
  session : Session
  /-- machine cycles since reset (R35) -/
  cycle : Nat
  /-- the diagnostic stream, oldest first (R35) -/
  diag : List Diagnostic
  /-- the model's own: the parameters of 00_scope.md R6, changed by no step (log 4) -/
  params : Params
  /-- the model's own: the bus accesses of the latest CPU step, latest first (log 8) -/
  trace : List BusAccess
  /-- the model's own: cycles of the reset sequence not yet ticked (log 8) -/
  owed : Nat
  /-- the model's own: counters of the free values (log 7) -/
  draws : Draws
deriving DecidableEq, Repr

/-! ## Outcomes -/

/-- The faults of a step: none. No bus access faults (20_memory.md R61), every opcode byte executes
(30_encoding.md R104) and there is one privilege mode (60_exceptions.md R320); log 27. -/
inductive Fault where
deriving DecidableEq, Repr

/-- The refusals of a step. -/
inductive Refusal where
  /-- raised by `exec` for an instruction that has no meaning in the model; safe. No arm of `exec` raises it. -/
  | notModelled (mnemonic : String)
deriving DecidableEq, Repr

/-- The outcome of an instruction or a step. -/
abbrev Result := Host.Outcome State Fault Refusal

/-! ## Reset -/

/-- Device values after reset, hard and soft alike (60_exceptions.md R369). -/
def Vic.afterReset : Vic :=
  { regs := [], raster := 0, rcycle := 1, rasterCmp := 0, irqLatch := 0, irqEnable := 0, denSeen := false,
    spriteSprite := 0, spriteBackground := 0 }

def Timer.afterReset : Timer :=
  { counter := 0xFFFF, latch := 0xFFFF, ctrl := 0, underflowed := false, toggle := false }

def ClockTime.zero : ClockTime := { tenths := 0, seconds := 0, minutes := 0, hours := 0 }

def Tod.afterReset : Tod :=
  { clock := { tenths := 0, seconds := 0, minutes := 0, hours := 0x01 }, alarm := ClockTime.zero,
    latch := ClockTime.zero, latched := false, stopped := false, phase := 0, ticks := 0 }

def Cia.afterReset : Cia :=
  { pra := 0, prb := 0, ddra := 0, ddrb := 0, ta := Timer.afterReset, tb := Timer.afterReset, icrData := 0,
    icrMask := 0, ir := false, tod := Tod.afterReset, sdr := 0, sdrLeft := 0 }

def Voice.afterReset : Voice :=
  { freq := 0, pw := 0, control := 0, attackDecay := 0, sustainRelease := 0, acc := 0, noise := 0x7FFFF8,
    env := 0, phase := .release }

def Sid.afterReset : Sid :=
  { v1 := Voice.afterReset, v2 := Voice.afterReset, v3 := Voice.afterReset, cutoff := 0, resFilt := 0,
    modeVol := 0, samplePhase := 0, draws := 0 }

/-- `RESET_REGS`: the flags other than I after a hard reset (D6; DESIGN CHOICE zero, the recommended value,
log 2). -/
def Flags.afterPowerOn : Flags :=
  { n := false, v := false, d := false, i := true, z := false, c := false }

/-- `RESET_REGS`: A, X, Y and the S that the reset sequence starts from after a hard reset (D6; DESIGN CHOICE
zero, the recommended value, log 2). -/
def resetRegister : Byte := 0x00

/-- Nothing pressed, no drive attached (log 11, log 25). -/
def Input.idle : Input :=
  { joy1 := { now := 0, earlier := [] }, joy2 := { now := 0, earlier := [] }, restore := false, keys := [],
    drives := [] }

/-- A session that `start()` has just set running (70_reset_and_hazards.md R405; log 20, log 25). -/
def Session.started : Session :=
  { lifecycle := .running, released := false, monitor := .inactive, resumeWarp := false, breakpoints := [],
    queue := [], events := [] }

/-- The CPU after the reset sequence of a hard reset (10_state.md R38; 70_reset_and_hazards.md R401): S three
below where it began, I set, PC the word at the reset vector, which the reset bank configuration reads from
`ROM_KERNAL[$1FFC]` and `ROM_KERNAL[$1FFD]`. -/
def Cpu.afterPowerOn : Cpu :=
  { a := resetRegister, x := resetRegister, y := resetRegister, s := resetRegister - 3,
    pc := Config.romKernal 0x1FFD ++ Config.romKernal 0x1FFC, p := Flags.afterPowerOn, nmiPrev := false,
    nmiPending := false, intLatch := none, jammed := false }

/-- The machine right after power-on and its reset sequence, before the scheduler ticks the chipset for the
seven cycles of that sequence (10_state.md R38; 60_exceptions.md R369; 70_reset_and_hazards.md R401). The
diagnostic stream of a new machine and the list of events start empty: the spec gives `diag` no first value, and
a reset keeps it (DESIGN CHOICE, log 25). -/
def State.reset : State :=
  { cpu := Cpu.afterPowerOn, ddr := 0x00, pr := 0x00, ram := [], colorRam := [], vic := Vic.afterReset,
    cia1 := Cia.afterReset, cia2 := Cia.afterReset, sid := Sid.afterReset, input := Input.idle,
    session := Session.started, cycle := 0, diag := [], params := Params.recommended, trace := [], owed := 7,
    draws := { openBus := 0, unstable := 0, joystick := 0, osc3 := 0 } }

end Sys2Proof.Machine
end

