-- ==== Sys2Proof/Machine/Bits.lean ====
section
/-! DEFINITION. Bit-field helpers over the notation of 00_scope.md R7. -/

namespace Sys2Proof.Machine

/-- `b` with bit `i` set to `v`. -/
def putBit (b : Byte) (i : Nat) (v : Bool) : Byte :=
  if v then b ||| (1#8 <<< i) else b &&& ~~~(1#8 <<< i)

/-- `w[7:0] <- b`. -/
def putLo (w : Word) (b : Byte) : Word := wordOf (hiByte w) b

/-- `w[15:8] <- b`. -/
def putHi (w : Word) (b : Byte) : Word := wordOf b (loByte w)

/-- `{$00, d}`: a zero-page address (30_encoding.md R103). -/
def zeroPage (d : Byte) : Word := wordOf 0x00 d

/-- `{$01, s}`: a stack address (10_state.md R22). -/
def stackAddr (s : Byte) : Word := wordOf 0x01 s

/-- `sext_16(v)` (00_scope.md R7). -/
def sext16 (v : Byte) : Word := v.signExtend 16

/-- `zext_16(v)` (00_scope.md R7). -/
def zext16 (v : Byte) : Word := v.zeroExtend 16

end Sys2Proof.Machine
end

