-- ==== Sys2Proof/Machine/Cia.lean ====
section
/-! DEFINITION. The I/O timer chips (60_exceptions.md R350 to R359). -/

namespace Sys2Proof.Machine

/-! ## Interrupt control (R355, R356) -/

/-- `ir` after a change of `icr_data` or `icr_mask` (R355): it is set, never cleared. -/
def Cia.updateIr (c : Cia) : Cia := if c.icrData &&& c.icrMask != 0 then { c with ir := true } else c

/-- Record interrupt events in `icr_data` (R353, R358, R359). -/
def Cia.flag (bits : BitVec 5) (c : Cia) : Cia := Cia.updateIr { c with icrData := c.icrData ||| bits }

/-- A write of the mask, in set or clear form (R355). -/
def Cia.writeMask (v : Byte) (c : Cia) : Cia :=
  let bits := v.extractLsb' 0 5
  Cia.updateIr { c with icrMask := if v.getLsbD 7 then c.icrMask ||| bits else c.icrMask &&& ~~~bits }

/-- A read of ICR acknowledges (R356). -/
def Cia.readIcr (c : Cia) : Byte × Cia :=
  (BitVec.ofBool c.ir ++ 0b00#2 ++ c.icrData, { c with icrData := 0, ir := false })

/-! ## Timers (R352, R353, R357) -/

/-- START, bit 0. -/
def Timer.running (t : Timer) : Bool := t.ctrl.getLsbD 0

/-- A write of the low latch byte (R350). -/
def Timer.writeLo (v : Byte) (t : Timer) : Timer := { t with latch := putLo t.latch v }

/-- A write of the high latch byte (R350): a stopped timer is loaded. -/
def Timer.writeHi (v : Byte) (t : Timer) : Timer :=
  let latch := putHi t.latch v
  { t with latch := latch, counter := if t.running then t.counter else latch }

/-- A write of CRA or CRB (R352): LOAD is a strobe and is not stored; starting the timer sets its toggle output
(R357). -/
def Timer.writeCtrl (v : Byte) (t : Timer) : Timer :=
  { t with
    ctrl := v &&& 0xEF
    counter := if v.getLsbD 4 then t.latch else t.counter
    toggle := (v.getLsbD 0 && !t.running) || t.toggle }

/-- `tick_timer` (R353): one tick in which the timer's input does or does not count. The toggle output inverts
at each underflow in toggle mode (R357). -/
def Timer.tick (count : Bool) (t : Timer) : Timer :=
  if t.running && count then
    if t.counter = 0 then
      { t with
        counter := t.latch
        ctrl := if t.ctrl.getLsbD 3 then t.ctrl &&& 0xFE else t.ctrl
        underflowed := true
        toggle := if t.ctrl.getLsbD 2 then !t.toggle else t.toggle }
    else { t with counter := t.counter - 1, underflowed := false }
  else { t with underflowed := false }

/-- What the timer shows on port B (R357): the toggle output in toggle mode, else 1 for the tick of an
underflow. -/
def Timer.output (t : Timer) : Bool := if t.ctrl.getLsbD 2 then t.toggle else t.underflowed

/-! ## Ports (R351, R357) -/

/-- A port as the chip drives it: the output latch where the direction bit is 1, the pull-up where it is 0. -/
def portDriven (pr ddr : Byte) : Byte := (pr &&& ddr) ||| ~~~ddr

/-- Port A as the chip drives it. -/
def Cia.portA (c : Cia) : Byte := portDriven c.pra c.ddra

/-- Port B as the chip drives it: a timer with PBON drives bit 6 or 7 (R357, log 16). -/
def Cia.portB (c : Cia) : Byte :=
  let b := portDriven c.prb c.ddrb
  let b := if c.ta.ctrl.getLsbD 1 then putBit b 6 c.ta.output else b
  if c.tb.ctrl.getLsbD 1 then putBit b 7 c.tb.output else b

/-! ## Time of day (R358) -/

/-- The two digits of `v` are decimal and `v` is below `max`. -/
def bcdBelow (max v : Byte) : Bool :=
  decide ((v.extractLsb' 0 4).toNat ≤ 9) && decide ((v.extractLsb' 4 4).toNat ≤ 9) && decide (v < max)

/-- The successor of a BCD number below `max`. -/
def bcdSucc (v : Byte) : Byte := if v.extractLsb' 0 4 = 9 then v + 7 else v + 1

/-- Advance a BCD counter that wraps after `max`, with its carry; `mask` is its width. A value that is no BCD
number up to `max` advances to a value the spec does not state (log 14). -/
def bcdCount (max mask v : Byte) : Byte × Bool :=
  if v = max then (0, true)
  else if bcdBelow max v then (bcdSucc v, false)
  else ((Config.invalidBcdNext v).1 &&& mask, (Config.invalidBcdNext v).2)

/-- Advance the hours, BCD 1 to 12 with PM in bit 7: 12 is followed by 1, and 11 by 12 with the other half of
the day (log 14). -/
def hourCount (v : Byte) : Byte :=
  let pm := v &&& 0x80
  let h := v &&& 0x1F
  if h = 0x12 then pm ||| 0x01
  else if h = 0x11 then (pm ^^^ 0x80) ||| 0x12
  else if h ≠ 0 ∧ bcdBelow 0x11 h then pm ||| bcdSucc h
  else (Config.invalidBcdNext v).1 &&& 0x9F

/-- One tenth of a second later. -/
def ClockTime.next (t : ClockTime) : ClockTime :=
  let ten := bcdCount 0x09 0x0F t.tenths
  let sec := if ten.2 then bcdCount 0x59 0x7F t.seconds else (t.seconds, false)
  let min := if sec.2 then bcdCount 0x59 0x7F t.minutes else (t.minutes, false)
  { tenths := ten.1, seconds := sec.1, minutes := min.1,
    hours := if min.2 then hourCount t.hours else t.hours }

/-- Write one of the four registers, `n` counting from the tenths, with the bits R350 gives it. -/
def ClockTime.write (n : Nat) (v : Byte) (t : ClockTime) : ClockTime :=
  match n with
  | 0 => { t with tenths := v &&& 0x0F }
  | 1 => { t with seconds := v &&& 0x7F }
  | 2 => { t with minutes := v &&& 0x7F }
  | _ => { t with hours := v &&& 0x9F }

/-- A CPU write to the clock (R358): the hours stop it, the tenths start it. -/
def Tod.writeClock (n : Nat) (v : Byte) (t : Tod) : Tod :=
  let t := { t with clock := t.clock.write n v }
  match n with
  | 0 => { t with stopped := false }
  | 3 => { t with stopped := true }
  | _ => t

/-- What the tenths, seconds and minutes registers read as (R358). -/
def Tod.shown (t : Tod) : ClockTime := if t.latched then t.latch else t.clock

/-- A CPU read of one of the four registers (R358): the hours freeze the other three, the tenths release
them. -/
def Tod.read (n : Nat) (t : Tod) : Byte × Tod :=
  match n with
  | 0 => (t.shown.tenths, { t with latched := false })
  | 1 => (t.shown.seconds, t)
  | 2 => (t.shown.minutes, t)
  | _ => (t.clock.hours, if t.latched then t else { t with latched := true, latch := t.clock })

/-- One input tick of the mains frequency (R358): one tenth every five or six of them. -/
def Tod.inputTick (todin : Bool) (t : Tod) : Tod :=
  if t.stopped then t
  else if (if todin then 5 else 6) ≤ t.ticks + 1 then { t with ticks := 0, clock := t.clock.next }
  else { t with ticks := t.ticks + 1 }

/-- One machine cycle (R358): `MAINS_HZ` input ticks in `CLOCK_HZ` cycles. -/
def Tod.tick (std : VideoStandard) (todin : Bool) (t : Tod) : Tod :=
  let phase := t.phase + std.mainsHz
  if std.clockHz ≤ phase then Tod.inputTick todin { t with phase := phase - std.clockHz }
  else { t with phase := phase }

/-- Set the time of day to `t`, and `icr_data[2]` when the clock comes to equal the alarm (R358, log 14). -/
def Cia.setTod (t : Tod) (c : Cia) : Cia :=
  let alarmed := t.clock = t.alarm ∧ c.tod.clock ≠ c.tod.alarm
  let c := { c with tod := t }
  if alarmed then c.flag 0x04 else c

/-- A CPU write to a time-of-day register: the clock, or the alarm when `CRB.ALARM` is set (R352, R358). -/
def Cia.writeTod (n : Nat) (v : Byte) (c : Cia) : Cia :=
  if c.tb.ctrl.getLsbD 7 then c.setTod { c.tod with alarm := c.tod.alarm.write n v }
  else c.setTod (c.tod.writeClock n v)

/-! ## Serial data register (R359) -/

/-- SPMODE, bit 6 of CRA. -/
def Cia.serialOut (c : Cia) : Bool := c.ta.ctrl.getLsbD 6

/-- A write of SDR (R359): in output mode it starts eight bits at half the timer A underflow rate. -/
def Cia.writeSdr (v : Byte) (c : Cia) : Cia :=
  { c with sdr := v, sdrLeft := if c.serialOut then 16 else c.sdrLeft }

/-- A timer A underflow seen by the serial port (R359). -/
def Cia.serialTick (c : Cia) : Cia :=
  if c.ta.underflowed && c.serialOut && c.sdrLeft != 0 then
    let c := { c with sdrLeft := c.sdrLeft - 1 }
    if c.sdrLeft = 0 then c.flag 0x08 else c
  else c

/-! ## Registers and the tick -/

/-- A CPU read of register `n` (R350), given the external pin levels of the two ports (R351). -/
def Cia.read (n : BitVec 4) (extA extB : Byte) (c : Cia) : Byte × Cia :=
  match n.toNat with
  | 0x0 => (c.portA &&& extA, c)
  | 0x1 => (c.portB &&& extB, c)
  | 0x2 => (c.ddra, c)
  | 0x3 => (c.ddrb, c)
  | 0x4 => (loByte c.ta.counter, c)
  | 0x5 => (hiByte c.ta.counter, c)
  | 0x6 => (loByte c.tb.counter, c)
  | 0x7 => (hiByte c.tb.counter, c)
  | 0xC => (c.sdr, c)
  | 0xD => c.readIcr
  | 0xE => (c.ta.ctrl &&& 0xEF, c)
  | 0xF => (c.tb.ctrl &&& 0xEF, c)
  | k => ((c.tod.read (k - 8)).1, { c with tod := (c.tod.read (k - 8)).2 })

/-- A CPU write of register `n` (R350). -/
def Cia.write (n : BitVec 4) (v : Byte) (c : Cia) : Cia :=
  match n.toNat with
  | 0x0 => { c with pra := v }
  | 0x1 => { c with prb := v }
  | 0x2 => { c with ddra := v }
  | 0x3 => { c with ddrb := v }
  | 0x4 => { c with ta := c.ta.writeLo v }
  | 0x5 => { c with ta := c.ta.writeHi v }
  | 0x6 => { c with tb := c.tb.writeLo v }
  | 0x7 => { c with tb := c.tb.writeHi v }
  | 0xC => c.writeSdr v
  | 0xD => c.writeMask v
  | 0xE => { c with ta := c.ta.writeCtrl v }
  | 0xF => { c with tb := c.tb.writeCtrl v }
  | k => c.writeTod (k - 8) v

/-- Timer A's part of the tick (R353): it counts machine cycles, and no CNT edge ever comes (R352). -/
def Cia.tickA (c : Cia) : Cia :=
  let c := { c with ta := c.ta.tick (!c.ta.ctrl.getLsbD 5) }
  if c.ta.underflowed then c.flag 0x01 else c

/-- Timer B's part of the tick (R353): INMODE `%00` counts machine cycles, `%10` and `%11` timer A's
underflows (CNT is held high, R352). -/
def Cia.tickB (c : Cia) : Cia :=
  let count := match c.tb.ctrl.getLsbD 6, c.tb.ctrl.getLsbD 5 with
    | false, false => true
    | false, true => false
    | true, _ => c.ta.underflowed
  let c := { c with tb := c.tb.tick count }
  if c.tb.underflowed then c.flag 0x02 else c

/-- The chip's tick (R353): timer A, timer B, the serial port, the time of day. -/
def Cia.tick (std : VideoStandard) (c : Cia) : Cia :=
  let c := c.tickA.tickB.serialTick
  c.setTod (c.tod.tick std (c.ta.ctrl.getLsbD 7))

end Sys2Proof.Machine
end

