-- ==== Sys2Proof/Machine/Sid.lean ====
section
/-! DEFINITION. The audio chip as a register file that produces a sample sequence (60_exceptions.md R361 to
R363). What R362 leaves out (the envelope rates, the combined waveforms, the taps of the noise register, which
voice drives which) is a free value of Config (log 17). -/

namespace Sys2Proof.Machine

/-! ## Registers (R361) -/

/-- A write of CONTROL: GATE going 0 to 1 starts the attack, going 1 to 0 the release (R362). -/
def Voice.writeControl (b : Byte) (v : Voice) : Voice :=
  let phase := match v.control.getLsbD 0, b.getLsbD 0 with
    | false, true => .attack
    | true, false => .release
    | _, _ => v.phase
  { v with control := b, phase := phase }

/-- A write of register `r` of a voice (R361). -/
def Voice.write (r : Nat) (b : Byte) (v : Voice) : Voice :=
  match r with
  | 0 => { v with freq := putLo v.freq b }
  | 1 => { v with freq := putHi v.freq b }
  | 2 => { v with pw := v.pw.extractLsb' 8 4 ++ b }
  | 3 => { v with pw := b.extractLsb' 0 4 ++ v.pw.extractLsb' 0 8 }
  | 4 => v.writeControl b
  | 5 => { v with attackDecay := b }
  | _ => { v with sustainRelease := b }

/-- A CPU write of register `n` (R361): the read-only registers and the numbers above `$1C` ignore it. -/
def Sid.write (n : BitVec 5) (b : Byte) (s : Sid) : Sid :=
  let k := n.toNat
  if k < 0x07 then { s with v1 := s.v1.write k b }
  else if k < 0x0E then { s with v2 := s.v2.write (k - 0x07) b }
  else if k < 0x15 then { s with v3 := s.v3.write (k - 0x0E) b }
  else if k = 0x15 then { s with cutoff := s.cutoff.extractLsb' 3 8 ++ b.extractLsb' 0 3 }
  else if k = 0x16 then { s with cutoff := b ++ s.cutoff.extractLsb' 0 3 }
  else if k = 0x17 then { s with resFilt := b }
  else if k = 0x18 then { s with modeVol := b }
  else s

/-! ## Waveforms (R362) -/

/-- Voice `i`, counting from 0. -/
def Sid.voice (s : Sid) (i : Fin 3) : Voice :=
  match i with
  | 0 => s.v1
  | 1 => s.v2
  | 2 => s.v3

/-- The waveform-select bits 7 to 4 of CONTROL. -/
def Voice.wave (v : Voice) : BitVec 4 := v.control.extractLsb' 4 4

/-- Exactly one waveform bit is set, so that R362 gives the output. -/
def Voice.pureWave (v : Voice) : Bool := v.wave == 1 || v.wave == 2 || v.wave == 4 || v.wave == 8

/-- The triangle: `acc[22:11]`, inverted when the top bit is set, that bit being XOR-ed with the modulating
voice's when RING is set. -/
def triangle (acc : BitVec 24) (ring : Bool) (modulatorTop : Bool) : BitVec 12 :=
  let top := acc.getLsbD 23 ^^ (ring && modulatorTop)
  if top then ~~~(acc.extractLsb' 11 12) else acc.extractLsb' 11 12

/-- The number of a draw for voice `i`: no two voices share one. -/
def Sid.drawOf (s : Sid) (i : Fin 3) : Nat := 3 * s.draws + i.val

/-- The 12-bit waveform output of voice `i` (R362). -/
def Sid.waveform (s : Sid) (i : Fin 3) : BitVec 12 :=
  let v := s.voice i
  if v.wave = 1 then
    triangle v.acc (v.control.getLsbD 2) ((s.voice (Config.voiceModulator i)).acc.getLsbD 23)
  else if v.wave = 2 then v.acc.extractLsb' 12 12
  else if v.wave = 4 then if v.pw ≤ v.acc.extractLsb' 12 12 then 0xFFF else 0
  else if v.wave = 8 then Config.noiseOutput v.noise
  else Config.otherWaveform v.wave v.acc v.noise (s.drawOf i)

/-- OSC3: the upper 8 bits of voice 3's waveform output (R361); the free value of this read when R362 does not
define the waveform (U8). No read changes the chip: its samples depend on the writes and the ticks alone (R363). -/
def Sid.readOsc3 (draw : Nat) (s : Sid) : Byte :=
  if s.v3.pureWave then (s.waveform 2).extractLsb' 4 8 else Config.undefinedOsc3 draw

/-! ## Tick (R362) -/

/-- The accumulator after a tick, before hard sync; TEST holds it at 0. -/
def Voice.stepAcc (v : Voice) : BitVec 24 :=
  if v.control.getLsbD 3 then 0 else v.acc + v.freq.zeroExtend 24

/-- Bit 23 of the accumulator rises in this tick. -/
def Voice.rises (v : Voice) : Bool := v.stepAcc.getLsbD 23 && !v.acc.getLsbD 23

/-- Clock the noise shift register, feedback bit 22 XOR bit 17. -/
def clockNoise (r : BitVec 23) : BitVec 23 :=
  r.extractLsb' 0 22 ++ BitVec.ofBool (r.getLsbD 22 ^^ r.getLsbD 17)

/-- Set the accumulator, clocking the noise register when bit 19 rises. -/
def Voice.setAcc (acc : BitVec 24) (v : Voice) : Voice :=
  { v with acc := acc, noise := if acc.getLsbD 19 && !v.acc.getLsbD 19 then clockNoise v.noise else v.noise }

/-- The sustain level: the sustain nibble in both halves. -/
def Voice.sustainLevel (v : Voice) : Byte := v.sustainRelease.extractLsb' 4 4 ++ v.sustainRelease.extractLsb' 4 4

/-- The envelope counter in one tick: it moves by one towards the end of its phase when the rate the nibble
selects says so, which is free (log 17). -/
def Voice.tickEnv (draw : Nat) (v : Voice) : Voice :=
  match v.phase with
  | .attack =>
    if v.env = 0xFF then { v with phase := .decay }
    else if Config.attackMoves (v.attackDecay.extractLsb' 4 4) v.env draw then { v with env := v.env + 1 }
    else v
  | .decay =>
    if v.sustainLevel < v.env && Config.decayMoves (v.attackDecay.extractLsb' 0 4) v.env draw then
      { v with env := v.env - 1 }
    else v
  | .release =>
    if v.env != 0 && Config.releaseMoves (v.sustainRelease.extractLsb' 0 4) v.env draw then
      { v with env := v.env - 1 }
    else v

/-- One voice's tick: the accumulator is reset to 0 when SYNC is set and the syncing voice's bit 23 rises. -/
def Sid.tickVoice (s : Sid) (i : Fin 3) : Voice :=
  let v := s.voice i
  let sync := v.control.getLsbD 1 && (s.voice (Config.voiceModulator i)).rises
  (v.setAcc (if sync then 0 else v.stepAcc)).tickEnv (s.drawOf i)

/-- A voice's share of a sample: (waveform minus `$800`) times envelope. -/
def Sid.level (s : Sid) (i : Fin 3) : Int :=
  (((s.waveform i).toNat : Int) - 0x800) * ((s.voice i).env.toNat : Int)

/-- One output sample: the sum over the voices, voice 3 left out when it is switched off, times the volume
nibble (R361, R362). -/
def Sid.sample (s : Sid) : Int :=
  (s.level 0 + s.level 1 + (if s.modeVol.getLsbD 7 then 0 else s.level 2))
    * ((s.modeVol.extractLsb' 0 4).toNat : Int)

/-- Advance the three voices at once. -/
def Sid.tickVoices (s : Sid) : Sid :=
  { s with v1 := s.tickVoice 0, v2 := s.tickVoice 1, v3 := s.tickVoice 2, draws := s.draws + 1 }

/-- The chip's tick (R362): the chip after it, and the sample taken in it, one every `CLOCK_HZ / AUDIO_RATE`
ticks. -/
def Sid.tick (std : VideoStandard) (rate : Nat) (s : Sid) : Sid × Option Int :=
  let s := s.tickVoices
  let phase := s.samplePhase + rate
  if std.clockHz ≤ phase then ({ s with samplePhase := phase - std.clockHz }, some s.sample)
  else ({ s with samplePhase := phase }, none)

/-- A CPU read of register `n`: the chip drives only `$19` to `$1C` (R361); `none` where nothing drives the
bus. `draw` numbers the reads of OSC3 that have a free value. -/
def Sid.read (n : BitVec 5) (draw : Nat) (s : Sid) : Option Byte :=
  match n.toNat with
  | 0x19 => some 0xFF
  | 0x1A => some 0xFF
  | 0x1B => some (s.readOsc3 draw)
  | 0x1C => some s.v3.env
  | _ => none

end Sys2Proof.Machine
end

