-- ==== Sys2Proof/Machine/Memory.lean ====
section
/-! DEFINITION. Reading and writing one cell of a store in canonical form (20_memory.md R63). -/

namespace Sys2Proof.Machine

/-- The cell at an address; an unlisted address reads as zero. -/
def Memory.read {w : Nat} : Memory w → Nat → BitVec w
  | [], _ => 0
  | (k, v) :: rest, a => if k = a then v else Memory.read rest a

/-- Put a cell before a list, unless it reads as an unlisted address does. -/
def Memory.cons {w : Nat} (a : Nat) (v : BitVec w) (m : Memory w) : Memory w :=
  if v = 0 then m else (a, v) :: m

/-- Write one cell, keeping the canonical form: writing zero removes the entry. -/
def Memory.write {w : Nat} : Memory w → Nat → BitVec w → Memory w
  | [], a, v => Memory.cons a v []
  | (k, u) :: rest, a, v =>
    if a < k then Memory.cons a v ((k, u) :: rest)
    else if a = k then Memory.cons a v rest
    else (k, u) :: Memory.write rest a v

end Sys2Proof.Machine
end

