-- ==== Sys2Proof/Machine/Vic.lean ====
section
/-! DEFINITION. The video chip as an interrupt and cycle-steal source (60_exceptions.md R332 to R347). -/

namespace Sys2Proof.Machine

/-- A register of the plain-storage file, as last written. -/
def Vic.reg (v : Vic) (n : Nat) : Byte := v.regs.read n

/-- `DEN`, bit 4 of `$D011` (R333). -/
def Vic.den (v : Vic) : Bool := (v.reg 0x11).getLsbD 4

/-- `YSCROLL`, bits 2 to 0 of `$D011` (R340). -/
def Vic.yscroll (v : Vic) : BitVec 3 := (v.reg 0x11).extractLsb' 0 3

/-- `vic_irq` (R310, R336): some latched source is enabled. -/
def Vic.irq (v : Vic) : Bool := v.irqLatch &&& v.irqEnable != 0

/-- A CPU read of register `n` (R334; 20_memory.md R84): the value and the chip after it. The two collision
registers clear on read (R346); bits the chip does not implement read as 1. -/
def Vic.read (n : BitVec 6) (v : Vic) : Byte × Vic :=
  match n.toNat with
  | 0x11 => (v.raster.extractLsb' 8 1 ++ (v.reg 0x11).extractLsb' 0 7, v)
  | 0x12 => (v.raster.extractLsb' 0 8, v)
  | 0x16 => (v.reg 0x16 ||| 0xC0, v)
  | 0x18 => (v.reg 0x18 ||| 0x01, v)
  | 0x19 => (BitVec.ofBool v.irq ++ 0b111#3 ++ v.irqLatch, v)
  | 0x1A => (0xF#4 ++ v.irqEnable, v)
  | 0x1E => (v.spriteSprite, { v with spriteSprite := 0 })
  | 0x1F => (v.spriteBackground, { v with spriteBackground := 0 })
  | k => if 0x2F ≤ k then (0xFF, v) else if 0x20 ≤ k then (v.reg k ||| 0xF0, v) else (v.reg k, v)

/-- Write the raster compare value; it latches a raster interrupt at once when it now equals the current line
and did not before (R335). -/
def Vic.setCompare (cmp : BitVec 9) (v : Vic) : Vic :=
  if cmp = v.raster ∧ v.rasterCmp ≠ v.raster then { v with rasterCmp := cmp, irqLatch := v.irqLatch ||| 1 }
  else { v with rasterCmp := cmp }

/-- Store a plain register. -/
def Vic.store (n : Nat) (b : Byte) (v : Vic) : Vic := { v with regs := v.regs.write n b }

/-- A CPU write of register `n` (R334, R336; 20_memory.md R84): the collision registers and the numbers above
`$2E` ignore it. -/
def Vic.write (n : BitVec 6) (b : Byte) (v : Vic) : Vic :=
  match n.toNat with
  | 0x11 => (v.store 0x11 (b &&& 0x7F)).setCompare (b.extractLsb' 7 1 ++ v.rasterCmp.extractLsb' 0 8)
  | 0x12 => v.setCompare (v.rasterCmp.extractLsb' 8 1 ++ b)
  | 0x19 => { v with irqLatch := v.irqLatch &&& ~~~(b.extractLsb' 0 4) }
  | 0x1A => { v with irqEnable := b.extractLsb' 0 4 }
  | 0x1E => v
  | 0x1F => v
  | k => if 0x2F ≤ k then v else v.store k b

/-- Move to the next cycle, line and frame (R333): the chip after it, and whether the frame wrapped. -/
def Vic.advance (std : VideoStandard) (v : Vic) : Vic × Bool :=
  if v.rcycle + 1 ≤ std.cyclesPerLine then ({ v with rcycle := v.rcycle + 1 }, false)
  else if v.raster + 1 = BitVec.ofNat 9 std.lines then
    ({ v with rcycle := 1, raster := 0, denSeen := false }, true)
  else ({ v with rcycle := 1, raster := v.raster + 1 }, false)

/-- `den_seen` in line `$30` (R333). -/
def Vic.noteDen (v : Vic) : Vic := if v.raster = 0x30 ∧ v.den then { v with denSeen := true } else v

/-- The raster compare, evaluated once a line (R333). -/
def Vic.compareRaster (v : Vic) : Vic :=
  if v.raster = v.rasterCmp ∧ v.rcycle = (if v.raster = 0 then 2 else 1) then
    { v with irqLatch := v.irqLatch ||| 1 }
  else v

/-- The video chip's tick (R333): the chip after it, and whether a frame-ready event is emitted (R347). -/
def Vic.tick (std : VideoStandard) (v : Vic) : Vic × Bool :=
  let r := v.advance std
  (r.1.noteDen.compareRaster, r.2)

/-- The line is a badline (R340). -/
def Vic.badline (v : Vic) : Bool :=
  v.denSeen && decide (0x30 ≤ v.raster) && decide (v.raster ≤ 0xF7) && v.raster.extractLsb' 0 3 == v.yscroll

/-- The 40 character-pointer fetches of a badline (R340). -/
def Vic.stealBadline (v : Vic) : Bool := v.badline && decide (15 ≤ v.rcycle) && decide (v.rcycle ≤ 54)

/-- Sprite `n` has display DMA on a raster line (R341). -/
def Vic.spriteDma (v : Vic) (n : Nat) (line : BitVec 9) : Bool :=
  (v.reg 0x15).getLsbD n
    && decide ((line.extractLsb' 0 8 - v.reg (2 * n + 1)).toNat < if (v.reg 0x17).getLsbD n then 42 else 21)

/-- The raster line before the current one. -/
def Vic.lineBefore (std : VideoStandard) (v : Vic) : BitVec 9 :=
  if v.raster = 0 then BitVec.ofNat 9 (std.lines - 1) else v.raster - 1

/-- The sprite cycles of a PAL line (R341): sprites 0 to 2 at cycles 58 to 63, and sprites 3 to 7 at cycles 1
to 10 for the DMA of the line before. -/
def Vic.stealSpritePal (v : Vic) : Bool :=
  if 58 ≤ v.rcycle ∧ v.rcycle ≤ 63 then v.spriteDma ((v.rcycle - 58) / 2) v.raster
  else if 1 ≤ v.rcycle ∧ v.rcycle ≤ 10 then v.spriteDma (3 + (v.rcycle - 1) / 2) (v.lineBefore .pal)
  else false

/-- The sprite cycles of an NTSC line, two consecutive ones for a sprite with DMA, at positions the spec does
not give (R341, U13, log 18). -/
def Vic.stealSpriteNtsc (v : Vic) : Bool :=
  (List.finRange 8).any fun n =>
    v.spriteDma n (if Config.ntscSpriteCarried n then v.lineBefore .ntsc else v.raster)
      && (v.rcycle == Config.ntscSpriteCycle n || v.rcycle == Config.ntscSpriteCycle n + 1)

/-- `steal` (R340, R341): the video chip owns the bus in the coming tick. -/
def Vic.steal (std : VideoStandard) (v : Vic) : Bool :=
  v.stealBadline || match std with
    | .pal => v.stealSpritePal
    | .ntsc => v.stealSpriteNtsc

end Sys2Proof.Machine
end

