-- ==== Sys2Proof/Machine/Bus.lean ====
section
/-! DEFINITION. The bus: the address map (20_memory.md R80 to R84), the processor port (10_state.md R29, R31),
the external pins of the ports (60_exceptions.md R351, R354, R360, R365, R366), and `MemRead` and `MemWrite`
with the device side effects of 20_memory.md R68 and R69. No access fails (R61). -/

namespace Sys2Proof.Machine

/-! ## The processor port and the map -/

/-- The bank configuration: bit 0 LORAM, bit 1 HIRAM, bit 2 CHAREN; an input pin counts as 1 (R31). -/
def bankOf (ddr pr : Byte) : BitVec 3 := (pr ||| ~~~ddr).extractLsb' 0 3

/-- The bank configuration in force (R31). -/
def State.bank (s : State) : BitVec 3 := bankOf s.ddr s.pr

/-- What a read of `$0001` returns (R29). -/
def State.portValue (s : State) : Byte := (s.pr &&& s.ddr) ||| (s.params.portExt.zeroExtend 8 &&& ~~~s.ddr)

/-- The backing stores (10_state.md R34; 20_memory.md R80). -/
inductive Store where
  | portDirection
  | portData
  | ram
  | basic
  | kernal
  | chargen
  | io
deriving DecidableEq, Repr

/-- The store that backs an address under a bank configuration (20_memory.md R62, R80 to R82). -/
def storeOf (bank : BitVec 3) (a : Word) : Store :=
  if a = 0x0000 then .portDirection
  else if a = 0x0001 then .portData
  else if a < 0xA000 then .ram
  else if a < 0xC000 then if bank.getLsbD 0 && bank.getLsbD 1 then .basic else .ram
  else if a < 0xD000 then .ram
  else if a < 0xE000 then
    if !bank.getLsbD 0 && !bank.getLsbD 1 then .ram else if bank.getLsbD 2 then .io else .chargen
  else if bank.getLsbD 1 then .kernal
  else .ram

/-- The store that backs an address now. -/
def State.store (s : State) (a : Word) : Store := storeOf s.bank a

/-- The devices of the I/O region (20_memory.md R84). -/
inductive IoDevice where
  | vic
  | sid
  | color
  | cia1
  | cia2
  | expansion
deriving DecidableEq, Repr

/-- The device at an address of the I/O region (20_memory.md R84). -/
def ioDevice (a : Word) : IoDevice :=
  if a < 0xD400 then .vic
  else if a < 0xD800 then .sid
  else if a < 0xDC00 then .color
  else if a < 0xDD00 then .cia1
  else if a < 0xDE00 then .cia2
  else .expansion

/-! ## Pins from outside -/

/-- The value an unsynchronised read sees: one of those the host has set since the previous read (R354, U21). -/
def Joystick.sample (draw : Nat) (j : Joystick) : BitVec 5 :=
  if j.earlier = [] then j.now
  else (j.now :: j.earlier).getD (Config.joystickPick draw % (j.earlier.length + 1)) j.now

/-- The byte after a read: earlier values are gone. -/
def Joystick.settle (j : Joystick) : Joystick := { j with earlier := [] }

/-- A pressed switch pulls its pin to 0 (R354). -/
def joystickPins (b : BitVec 5) : Byte := ~~~(b.zeroExtend 8)

/-- What the key matrix pulls low on the columns, given the rows as driven (R360). -/
def keyColumns (rows : Byte) (keys : List (Fin 8 × Fin 8)) : Byte :=
  keys.foldl (fun pins k => if rows.getLsbD k.1 then pins else putBit pins k.2 false) 0xFF

/-- What the key matrix pulls low on the rows, given the columns as driven (R351, R360; log 13). -/
def keyRows (columns : Byte) (keys : List (Fin 8 × Fin 8)) : Byte :=
  keys.foldl (fun pins k => if columns.getLsbD k.2 then pins else putBit pins k.1 false) 0xFF

/-- An output bit of CIA2 port A that pulls a serial line low: latch and direction both 1 (R366). -/
def Cia.pulls (c : Cia) (i : Nat) : Bool := c.pra.getLsbD i && c.ddra.getLsbD i

/-- `ATN_low` (R365). -/
def State.atnLow (s : State) : Bool := s.cia2.pulls 3

/-- `CLK_low` (R365). -/
def State.clkLow (s : State) : Bool := s.cia2.pulls 4 || s.input.drives.any (fun d => d.clkOut)

/-- `DATA_low`, with the drives' automatic acknowledge (R365). -/
def State.dataLow (s : State) : Bool :=
  s.cia2.pulls 5 || s.input.drives.any (fun d => d.dataOut || (s.atnLow ^^ d.atna))

/-- `ext` of CIA2 port A: the two serial inputs read 1 when the line is high (R366). -/
def State.serialPins (s : State) : Byte := putBit (putBit 0xFF 6 (!s.clkLow)) 7 (!s.dataLow)

/-! ## Device reads and writes -/

/-- A read of an address no device drives: a fresh draw (20_memory.md R70). -/
def State.readOpenBus (s : State) : Byte × State :=
  (Config.openBus s.draws.openBus, { s with draws := { s.draws with openBus := s.draws.openBus + 1 } })

/-- Count a joystick draw when there was a choice. -/
def State.countJoystick (j : Joystick) (s : State) : State :=
  if j.earlier = [] then s else { s with draws := { s.draws with joystick := s.draws.joystick + 1 } }

/-- Count a draw of OSC3 when a read of register `n` of the audio chip has a free value. -/
def State.countOsc3 (n : BitVec 5) (s : State) : State :=
  if n = 0x1B ∧ s.sid.v3.pureWave = false then { s with draws := { s.draws with osc3 := s.draws.osc3 + 1 } } else s

/-- A CPU read of CIA1 (R351, R354): port A sees joystick port 2 and the key rows, port B joystick port 1 and
the key columns. -/
def State.readCia1 (n : BitVec 4) (s : State) : Byte × State :=
  let extA := joystickPins (s.input.joy2.sample s.draws.joystick) &&& keyRows s.cia1.portB s.input.keys
  let extB := joystickPins (s.input.joy1.sample s.draws.joystick) &&& keyColumns s.cia1.portA s.input.keys
  let r := s.cia1.read n extA extB
  let s' := { s with cia1 := r.2 }
  match n.toNat with
  | 0x0 => (r.1, State.countJoystick s.input.joy2 { s' with input := { s.input with joy2 := s.input.joy2.settle } })
  | 0x1 => (r.1, State.countJoystick s.input.joy1 { s' with input := { s.input with joy1 := s.input.joy1.settle } })
  | _ => (r.1, s')

/-- A CPU read of CIA2 (R351, R366): nothing is attached to port B. -/
def State.readCia2 (n : BitVec 4) (s : State) : Byte × State :=
  let r := s.cia2.read n s.serialPins 0xFF
  (r.1, { s with cia2 := r.2 })

/-- A CPU read in the I/O region (20_memory.md R84). -/
def State.ioRead (a : Word) (s : State) : Byte × State :=
  match ioDevice a with
  | .vic => ((s.vic.read (a.extractLsb' 0 6)).1, { s with vic := (s.vic.read (a.extractLsb' 0 6)).2 })
  | .sid =>
    match s.sid.read (a.extractLsb' 0 5) s.draws.osc3 with
    | some v => (v, s.countOsc3 (a.extractLsb' 0 5))
    | none => s.readOpenBus
  | .color => (s.readOpenBus.1.extractLsb' 4 4 ++ s.colorRam.read (a.extractLsb' 0 10).toNat, s.readOpenBus.2)
  | .cia1 => s.readCia1 (a.extractLsb' 0 4)
  | .cia2 => s.readCia2 (a.extractLsb' 0 4)
  | .expansion => s.readOpenBus

/-- A CPU write in the I/O region (20_memory.md R84). -/
def State.ioWrite (a : Word) (v : Byte) (s : State) : State :=
  match ioDevice a with
  | .vic => { s with vic := s.vic.write (a.extractLsb' 0 6) v }
  | .sid => { s with sid := s.sid.write (a.extractLsb' 0 5) v }
  | .color => { s with colorRam := s.colorRam.write (a.extractLsb' 0 10).toNat (v.extractLsb' 0 4) }
  | .cia1 => { s with cia1 := s.cia1.write (a.extractLsb' 0 4) v }
  | .cia2 => { s with cia2 := s.cia2.write (a.extractLsb' 0 4) v }
  | .expansion => s

/-! ## Bus accesses -/

/-- `read(address)` (20_memory.md R60): the byte, and the state with the access's side effects. -/
def State.busRead (a : Word) (s : State) : Byte × State :=
  match s.store a with
  | .portDirection => (s.ddr, s)
  | .portData => (s.portValue, s)
  | .ram => (s.ram.read a.toNat, s)
  | .basic => (Config.romBasic (a.extractLsb' 0 13), s)
  | .kernal => (Config.romKernal (a.extractLsb' 0 13), s)
  | .chargen => (Config.romChargen (a.extractLsb' 0 12), s)
  | .io => s.ioRead a

/-- Store a byte of RAM. -/
def State.writeRam (a : Word) (v : Byte) (s : State) : State := { s with ram := s.ram.write a.toNat v }

/-- A write to a ROM-backed address: no effect, or the RAM under it with `ROM_WRITE_THROUGH` (20_memory.md R64,
D3). -/
def State.writeUnderRom (a : Word) (v : Byte) (s : State) : State :=
  if s.params.romWriteThrough then s.writeRam a v else s

/-- `write(address, byte)` (20_memory.md R60). -/
def State.busWrite (a : Word) (v : Byte) (s : State) : State :=
  match s.store a with
  | .portDirection => { s with ddr := v }
  | .portData => { s with pr := v }
  | .ram => s.writeRam a v
  | .basic => s.writeUnderRom a v
  | .kernal => s.writeUnderRom a v
  | .chargen => s.writeUnderRom a v
  | .io => s.ioWrite a v

/-- What a read would return, without its side effects: the Monitor's read (20_memory.md R77, D16). -/
def State.peek (s : State) (a : Word) : Byte := (s.busRead a).1

/-- Record a bus access of the current CPU step (20_memory.md R74). -/
def State.log (e : BusAccess) (s : State) : State := { s with trace := e :: s.trace }

/-- `MemRead(addr, 1)` (00_scope.md R9): one machine cycle. -/
def memRead (a : Word) (s : State) : Byte × State :=
  let r := s.busRead a
  (r.1, r.2.log (.read a r.1))

/-- `MemWrite(addr, 1, v)` (00_scope.md R9): one machine cycle. -/
def memWrite (a : Word) (v : Byte) (s : State) : State := (s.busWrite a v).log (.write a v)

/-- A read whose value is discarded (00_scope.md R9): a dummy read, with its side effects. -/
def dummyRead (a : Word) (s : State) : State := (memRead a s).2

end Sys2Proof.Machine
end

