-- ==== Sys2Proof/Machine/Flags.lean ====
section
/-! DEFINITION. The status byte and every flag computation (10_state.md R25 to R27; 42_arithmetic.md R171 to
R173; 43_logic_shift.md R195 to R198; 46_undocumented.md R251). Carries are computed in unbounded numbers and
narrowed at the end (00_scope.md R7). -/

namespace Sys2Proof.Machine

/-- A flag as a bit pattern's number. -/
def bit (b : Bool) : Nat := if b then 1 else 0

/-- The status byte with bit 5 = 1 and bit 4 = `brk` (10_state.md R27). -/
def Flags.toByte (p : Flags) (brk : Bool) : Byte :=
  BitVec.ofBool p.n ++ BitVec.ofBool p.v ++ 1#1 ++ BitVec.ofBool brk ++ BitVec.ofBool p.d ++ BitVec.ofBool p.i
    ++ BitVec.ofBool p.z ++ BitVec.ofBool p.c

/-- The flags in a pulled status byte; bits 5 and 4 are ignored (10_state.md R27). -/
def Flags.ofByte (b : Byte) : Flags :=
  { n := b.getLsbD 7, v := b.getLsbD 6, d := b.getLsbD 3, i := b.getLsbD 2, z := b.getLsbD 1, c := b.getLsbD 0 }

/-- `SetNZ(v)` (00_scope.md R8). -/
def Flags.setNZ (v : Byte) (p : Flags) : Flags := { p with n := v.msb, z := v == 0 }

/-- A result with the flags an adder writes (42_arithmetic.md R171, R172). -/
structure AluResult where
  r : Byte
  n : Bool
  v : Bool
  z : Bool
  c : Bool
deriving DecidableEq, Repr

/-- Write the adder's flags; D and I are unchanged. -/
def Flags.setAlu (o : AluResult) (p : Flags) : Flags := { p with n := o.n, v := o.v, z := o.z, c := o.c }

/-- Signed overflow of an addition with result `r`: equal operand signs and another sign of the result. -/
def addOverflow (a m r : Byte) : Bool := ((a ^^^ r) &&& (m ^^^ r)).msb

/-- `AddWithCarry`, binary (R171). -/
def addBinary (a m : Byte) (c : Bool) : AluResult :=
  let s := a.toNat + m.toNat + bit c
  let r := BitVec.ofNat 8 s
  { r := r, n := r.msb, v := addOverflow a m r, z := r == 0, c := decide (0x100 ≤ s) }

/-- The upper and the lower digit of a byte, as numbers. -/
def hiDigit (b : Byte) : Nat := (b.extractLsb' 4 4).toNat
def loDigit (b : Byte) : Nat := (b.extractLsb' 0 4).toNat

/-- `{hi[3:0], lo[3:0]}`. -/
def ofDigits (hi lo : BitVec 4) : Byte := hi ++ lo

/-- `AddWithCarry`, decimal, the NMOS behaviour (R171): Z from the binary sum, N and V from the intermediate
before the high correction. -/
def addDecimal (a m : Byte) (c : Bool) : AluResult :=
  let lo0 := loDigit a + loDigit m + bit c
  let lo := if 9 < lo0 then lo0 + 6 else lo0
  let hi := hiDigit a + hiDigit m + (if 0x0F < lo then 1 else 0)
  let mid := ofDigits (BitVec.ofNat 4 hi) 0
  let hi' := if 9 < hi then hi + 6 else hi
  { r := ofDigits (BitVec.ofNat 4 hi') (BitVec.ofNat 4 lo)
    n := mid.msb
    v := addOverflow a m mid
    z := BitVec.ofNat 8 (a.toNat + m.toNat + bit c) == 0
    c := decide (0x0F < hi') }

/-- `AddWithCarry(a, m, c, d)` (R171). -/
def addWithCarry (a m : Byte) (c d : Bool) : AluResult := if d then addDecimal a m c else addBinary a m c

/-- `SubWithBorrow`, binary (R172). -/
def subBinary (a m : Byte) (c : Bool) : AluResult := addBinary a (m ^^^ 0xFF) c

/-- The decimal result of a subtraction, the NMOS behaviour (R172). -/
def subDecimalResult (a m : Byte) (c : Bool) : Byte :=
  let lo0 : Int := (loDigit a : Int) - loDigit m - (1 - bit c)
  let hi0 : Int := (hiDigit a : Int) - hiDigit m
  let lo := if lo0 < 0 then lo0 - 6 else lo0
  let hi1 := if lo0 < 0 then hi0 - 1 else hi0
  let hi := if hi1 < 0 then hi1 - 6 else hi1
  ofDigits (BitVec.ofInt 4 hi) (BitVec.ofInt 4 lo)

/-- `SubWithBorrow(a, m, c, d)` (R172): in decimal mode only the result differs. -/
def subWithBorrow (a m : Byte) (c d : Bool) : AluResult :=
  if d then { subBinary a m c with r := subDecimalResult a m c } else subBinary a m c

/-- `Compare(r, m)` (R173): N, Z and C of a subtraction without borrow; V is not written. -/
def Flags.compare (r m : Byte) (p : Flags) : Flags :=
  { p with n := (r - m).msb, z := r == m, c := decide (m ≤ r) }

/-- A one-bit shift or an increment: the operand and the carry before it give the result and the carry after
it. -/
abbrev ByteOp := Byte → Bool → Byte × Bool

/-- R195: `{old[6:0], 0}`, carry `old[7]`. -/
def shiftLeft : ByteOp := fun old _ => (old <<< 1, old.getLsbD 7)

/-- R196: `{0, old[7:1]}`, carry `old[0]`. -/
def shiftRight : ByteOp := fun old _ => (old >>> 1, old.getLsbD 0)

/-- R197: `{old[6:0], c}`, carry `old[7]`. -/
def rotateLeft : ByteOp := fun old c => (old.extractLsb' 0 7 ++ BitVec.ofBool c, old.getLsbD 7)

/-- R198: `{c, old[7:1]}`, carry `old[0]`. -/
def rotateRight : ByteOp := fun old c => (BitVec.ofBool c ++ old.extractLsb' 1 7, old.getLsbD 0)

/-- R179: an increment leaves the carry alone. -/
def increment : ByteOp := fun old c => (old + 1, c)

/-- R180: a decrement leaves the carry alone. -/
def decrement : ByteOp := fun old c => (old - 1, c)

/-- BIT (43_logic_shift.md R194): N and V from the memory byte, Z from the AND. -/
def Flags.bitTest (a m : Byte) (p : Flags) : Flags :=
  { p with n := m.getLsbD 7, v := m.getLsbD 6, z := a &&& m == 0 }

/-- ARR (46_undocumented.md R251), binary mode, on `t = A & m`. -/
def arrBinary (t : Byte) (c : Bool) : AluResult :=
  let r := (rotateRight t c).1
  { r := r, n := r.msb, v := r.getLsbD 6 ^^ r.getLsbD 5, z := r == 0, c := r.getLsbD 6 }

/-- ARR (46_undocumented.md R251), decimal mode, on `t = A & m`. -/
def arrDecimal (t : Byte) (c : Bool) : AluResult :=
  let r := (rotateRight t c).1
  let r1 := if 5 < loDigit t + loDigit t % 2 then ofDigits (r.extractLsb' 4 4) (r.extractLsb' 0 4 + 6) else r
  let fix := decide (5 < hiDigit t + hiDigit t % 2)
  { r := if fix then r1 + 0x60 else r1, n := c, v := t.getLsbD 6 ^^ r.getLsbD 6, z := r == 0, c := fix }

end Sys2Proof.Machine
end

