-- ==== Sys2Proof/Machine/Ops.lean ====
section
/-! DEFINITION. The named operations over registers and the bus: register writes, the instruction stream, the
stack, the interrupt entry and its return, Retire, and the reset sequence (00_scope.md R8 to R10;
60_exceptions.md R302 to R311; 70_reset_and_hazards.md R401). -/

namespace Sys2Proof.Machine

/-! ## Registers -/

def State.setA (v : Byte) (s : State) : State := { s with cpu := { s.cpu with a := v } }
def State.setX (v : Byte) (s : State) : State := { s with cpu := { s.cpu with x := v } }
def State.setY (v : Byte) (s : State) : State := { s with cpu := { s.cpu with y := v } }
def State.setS (v : Byte) (s : State) : State := { s with cpu := { s.cpu with s := v } }
def State.setPc (v : Word) (s : State) : State := { s with cpu := { s.cpu with pc := v } }
def State.setP (p : Flags) (s : State) : State := { s with cpu := { s.cpu with p := p } }

/-- `SetNZ(v)` (00_scope.md R8). -/
def State.setNZ (v : Byte) (s : State) : State := s.setP (s.cpu.p.setNZ v)

/-- `P.C <- c`. -/
def State.setC (c : Bool) (s : State) : State := s.setP { s.cpu.p with c := c }

/-- `P.I <- i`. -/
def State.setI (i : Bool) (s : State) : State := s.setP { s.cpu.p with i := i }

/-- `A <- v; SetNZ(v)`. -/
def State.loadA (v : Byte) (s : State) : State := (s.setA v).setNZ v

/-- `X <- v; SetNZ(v)`. -/
def State.loadX (v : Byte) (s : State) : State := (s.setX v).setNZ v

/-- `Y <- v; SetNZ(v)`. -/
def State.loadY (v : Byte) (s : State) : State := (s.setY v).setNZ v

/-- `(A, N, V, Z, C) <- o`. -/
def State.setAlu (o : AluResult) (s : State) : State := (s.setA o.r).setP (s.cpu.p.setAlu o)

/-! ## The instruction stream -/

/-- `Fetch8()` (00_scope.md R10). -/
def fetch8 (s : State) : Byte × State :=
  let r := memRead s.cpu.pc s
  (r.1, r.2.setPc (r.2.cpu.pc + 1))

/-- The second cycle of an implied or accumulator instruction (30_encoding.md R106, R107): a read of the next
byte, PC unchanged. -/
def dummyPc (s : State) : State := dummyRead s.cpu.pc s

/-! ## The stack (10_state.md R22; 41_stack.md R160) -/

/-- `Push(v)`. -/
def push (v : Byte) (s : State) : State :=
  let s' := memWrite (stackAddr s.cpu.s) v s
  s'.setS (s'.cpu.s - 1)

/-- `Pull()`. -/
def pull (s : State) : Byte × State := memRead (stackAddr (s.cpu.s + 1)) (s.setS (s.cpu.s + 1))

/-- The dummy read of the stack at the old S. -/
def dummyStack (s : State) : State := dummyRead (stackAddr s.cpu.s) s

/-- Pull the 16-bit word whose low byte lies on top. -/
def pullWord (s : State) : Word × State :=
  let l := pull s
  let h := pull l.2
  (wordOf h.1 l.1, h.2)

/-- Push a 16-bit word, high byte first. -/
def pushWord (w : Word) (s : State) : State := push (loByte w) (push (hiByte w) s)

/-! ## Interrupts (60_exceptions.md R303 to R311) -/

/-- Read the 16-bit little-endian word at an address and the next one (20_memory.md R65, R83). -/
def readWord (a : Word) (s : State) : Word × State :=
  let l := memRead a s
  let h := memRead (a + 1) l.2
  (wordOf h.1 l.1, h.2)

/-- `PC <-` the word at a vector. -/
def jumpThrough (vector : Word) (s : State) : State := (readWord vector s).2.setPc (readWord vector s).1

/-- Taking an exception: push PC and the status byte, set I, go through the vector (60_exceptions.md R306;
45_flags_system.md R234). `brk` is bit 4 of the pushed status. -/
def enterHandler (vector : Word) (brk : Bool) (s : State) : State :=
  let s := pushWord s.cpu.pc s
  let s := push (s.cpu.p.toByte brk) s
  jumpThrough vector (s.setI true)

/-- Pull the status byte: the six flags (41_stack.md R164; 45_flags_system.md R235). -/
def pullFlags (s : State) : State := (pull s).2.setP (Flags.ofByte (pull s).1)

/-- Return from an exception: pull the flags and PC, with no adjustment (45_flags_system.md R235;
60_exceptions.md R308). -/
def returnFromHandler (s : State) : State :=
  let s := pullFlags s
  (pullWord s).2.setPc (pullWord s).1

/-- The vectors (20_memory.md R83). -/
def nmiVector : Word := 0xFFFA
def resetVector : Word := 0xFFFC
def irqVector : Word := 0xFFFE

/-- The vector of an interrupt (60_exceptions.md R303). -/
def Interrupt.vector : Interrupt → Word
  | .nmi => nmiVector
  | .irq => irqVector

/-- `raise Interrupt(k)` (60_exceptions.md R306): seven bus accesses. -/
def raiseInterrupt (k : Interrupt) (s : State) : State := enterHandler k.vector false (dummyPc (dummyPc s))

/-- `irq_line` (60_exceptions.md R310). -/
def State.irqLine (s : State) : Bool := s.vic.irq || s.cia1.ir

/-- `nmi_line` (60_exceptions.md R311). -/
def State.nmiLine (s : State) : Bool := s.cia2.ir || s.input.restore

/-- `SampleNMI()` (60_exceptions.md R304). -/
def sampleNmi (s : State) : State :=
  { s with cpu := { s.cpu with
      nmiPending := s.cpu.nmiPending || (s.nmiLine && !s.cpu.nmiPrev)
      nmiPrev := s.nmiLine } }

/-- `Retire()` (60_exceptions.md R302). -/
def retire (s : State) : State :=
  let s := sampleNmi s
  if s.cpu.nmiPending then { s with cpu := { s.cpu with nmiPending := false, intLatch := some .nmi } }
  else if s.irqLine && !s.cpu.p.i then { s with cpu := { s.cpu with intLatch := some .irq } }
  else { s with cpu := { s.cpu with intLatch := none } }

/-- `Diagnostic(kind, pc, opcode)` (60_exceptions.md R385). -/
def diagnostic (pc : Word) (opcode : Byte) (s : State) : State :=
  { s with diag := s.diag ++ [{ kind := .illegalOpcode, pc := pc, opcode := opcode }] }

/-! ## Reset (70_reset_and_hazards.md R401 to R403) -/

/-- The first lines of R401 for a hard reset: RESET_REGS and RAM_INIT (D5, D6; log 1, log 2). -/
def powerOn (s : State) : State :=
  { s with
    cpu :=
      { s.cpu with
        a := resetRegister, x := resetRegister, y := resetRegister, s := resetRegister
        p := { Flags.afterPowerOn with i := s.cpu.p.i } }
    ram := []
    colorRam := [] }

/-- The lines of R401 that both kinds of reset share before the bus accesses: the port, the hidden state and
the devices; `cycle` restarts (R403). The model's counters of draws go on, so that a draw after a reset is fresh. -/
def clearHardware (s : State) : State :=
  { s with
    ddr := 0x00
    pr := 0x00
    cpu := { s.cpu with jammed := false, intLatch := none, nmiPending := false, nmiPrev := false }
    vic := Vic.afterReset
    cia1 := Cia.afterReset
    cia2 := Cia.afterReset
    sid := { Sid.afterReset with draws := s.sid.draws }
    cycle := 0
    trace := [] }

/-- One stack cycle with the write suppressed: it still moves S. -/
def suppressedPush (s : State) : State :=
  let s' := dummyStack s
  s'.setS (s'.cpu.s - 1)

/-- The reset sequence (R401); its seven cycles are owed to the chipset (R330), and the session runs (R400). -/
def resetSequence (hard : Bool) (s : State) : State :=
  let s := clearHardware (if hard then powerOn s else s)
  let s := suppressedPush (suppressedPush (suppressedPush (dummyPc (dummyPc s))))
  let s := jumpThrough resetVector (s.setI true)
  { s with
    owed := 7
    session := { s.session with lifecycle := .running, monitor := .inactive } }

/-! ## Loading a program from outside (log 3) -/

/-- Where `withFetchWord` places an instruction: RAM in every bank configuration. -/
def loadAddress : Word := 0x0200

/-- Store bytes into RAM from an address on. -/
def storeBytes : Word → List Byte → State → State
  | _, [], s => s
  | a, b :: rest, s => storeBytes (a + 1) rest (s.writeRam a b)

/-- A running machine whose next step fetches at an address. -/
def readyToFetch (a : Word) (s : State) : State :=
  { s with
    cpu := { s.cpu with pc := a, jammed := false, intLatch := none }
    session := { s.session with lifecycle := .running } }

/-- The three bytes of the instruction whose bits below `nbits` are `w` (see `decodeTableWord`), placed where
the next step fetches. -/
def placeInstruction (nbits w : Nat) (s : State) : State :=
  let v := w % 2 ^ nbits
  readyToFetch loadAddress
    (storeBytes loadAddress [BitVec.ofNat 8 v, BitVec.ofNat 8 (v / 2 ^ 8), BitVec.ofNat 8 (v / 2 ^ 16)] s)

end Sys2Proof.Machine
end

