-- ==== Sys2Proof/Machine/Operands.lean ====
section
/-! DEFINITION. The addressing modes and the three access kinds (30_encoding.md R105 to R120). The operand bytes
have been fetched already (they are part of the instruction); what remains is the address-forming accesses, the
dummy reads, and the accesses to the operand, in the order of the rules. -/

namespace Sys2Proof.Machine

/-- Access kinds (30_encoding.md R105). -/
inductive AccessKind where
  | read
  | write
  | modify
deriving DecidableEq, Repr

/-- An effective address, the high byte of its base before indexing, and whether the index crossed a page. -/
structure Ea where
  ea : Word
  high : Byte
  crossed : Bool
deriving DecidableEq, Repr

/-- An address with no page to cross. -/
def Ea.plain (a : Word) : Ea := { ea := a, high := hiByte a, crossed := false }

/-- `eau`: the indexed address with the high byte not yet corrected (R113). -/
def unfixed (base : Word) (index : Byte) : Word := wordOf (hiByte base) (loByte base + index)

/-- Adding the index carries out of the low byte (R113, R120). -/
def crosses (base : Word) (index : Byte) : Bool := base + zext16 index != unfixed base index

/-- The last part of the modes abx, aby and izy (R113, R114, R116): a Read makes the dummy read at the unfixed
address only when a page is crossed, a Write or Modify always. -/
def indexed (k : AccessKind) (base : Word) (index : Byte) (s : State) : Ea × State :=
  let r : Ea := { ea := base + zext16 index, high := hiByte base, crossed := crosses base index }
  if k = .read ∧ r.crossed = false then (r, s) else (r, dummyRead (unfixed base index) s)

/-- Read a pointer in zero page; its high byte wraps inside the page (R115, R116). -/
def readPointer (q : Byte) (s : State) : Word × State :=
  let l := memRead (zeroPage q) s
  let h := memRead (zeroPage (q + 1)) l.2
  (wordOf h.1 l.1, h.2)

/-- The address cycles of a mode for an access kind (R109 to R116). -/
def resolve (k : AccessKind) (m : MemMode) (s : State) : Ea × State :=
  match m with
  | .zp d => (Ea.plain (zeroPage d), s)
  | .zpx d => (Ea.plain (zeroPage (d + s.cpu.x)), dummyRead (zeroPage d) s)
  | .zpy d => (Ea.plain (zeroPage (d + s.cpu.y)), dummyRead (zeroPage d) s)
  | .abs w => (Ea.plain w, s)
  | .abx w => indexed k w s.cpu.x s
  | .aby w => indexed k w s.cpu.y s
  | .izx d =>
    let p := readPointer (d + s.cpu.x) (dummyRead (zeroPage d) s)
    (Ea.plain p.1, p.2)
  | .izy d =>
    let p := readPointer d s
    indexed k p.1 p.2.cpu.y p.2

/-- `ReadOperand(m)` (R108 to R116). -/
def readOperand (src : Src) (s : State) : Byte × State :=
  match src with
  | .imm d => (d, s)
  | .mem m => memRead (resolve .read m s).1.ea (resolve .read m s).2

/-- `WriteOperand(m, v)` (R109 to R116). -/
def writeOperand (m : MemMode) (v : Byte) (s : State) : State :=
  memWrite (resolve .write m s).1.ea v (resolve .write m s).2

/-- `Modify(m, f)` at an effective address (R119): read, write the old value back, apply `f`, write the new
value. -/
def modifyAt (ea : Word) (f : ByteOp) (s : State) : Byte × State :=
  let r := memRead ea s
  let s1 := memWrite ea r.1 r.2
  let o := f r.1 s1.cpu.p.c
  (o.1, memWrite ea o.1 (s1.setC o.2))

/-- `Modify(m, f)` (R119): the new value, and the state after the sequence. -/
def modify (m : MemMode) (f : ByteOp) (s : State) : Byte × State :=
  modifyAt (resolve .modify m s).1.ea f (resolve .modify m s).2

/-- `new <- Modify(mode, f); SetNZ(new)`: the memory shifts and rotates (43_logic_shift.md R195 to R198), INC and
DEC (42_arithmetic.md R179, R180). -/
def opModify (f : ByteOp) (m : MemMode) (s : State) : State := (modify m f s).2.setNZ (modify m f s).1

end Sys2Proof.Machine
end

