-- ==== Sys2Proof/Machine/Branch.lean ====
section
/-! DEFINITION. Branches, jumps and subroutines (44_branch_jump.md R205 to R218). -/

namespace Sys2Proof.Machine

/-- The target of a taken branch (R205): PC is the address after the branch. -/
def branchTarget (pc : Word) (d : Byte) : Word := pc + sext16 d

/-- `Branch(cond)` after its displacement has been fetched (R205). -/
def opBranch (cond : Bool) (d : Byte) (s : State) : State :=
  if cond then
    let t := branchTarget s.cpu.pc d
    let tu := wordOf (hiByte s.cpu.pc) (loByte t)
    let s1 := dummyPc s
    (if tu = t then s1 else dummyRead tu s1).setPc t
  else s

/-- R214. -/
def opJmp (w : Word) (s : State) : State := s.setPc w

/-- R215: the pointer's high byte is not incremented. -/
def opJmpInd (w : Word) (s : State) : State :=
  let l := memRead w s
  let h := memRead (wordOf (hiByte w) (loByte w + 1)) l.2
  h.2.setPc (wordOf h.1 l.1)

/-- R216: the high target byte is read after the pushes, at the PC that was pushed. The high half of `w` is what
that byte held before them and is not used (log 9). -/
def opJsr (w : Word) (s : State) : State :=
  let s1 := pushWord s.cpu.pc (dummyStack s)
  let h := memRead s1.cpu.pc s1
  h.2.setPc (wordOf h.1 (loByte w))

/-- R217. -/
def opRts (s : State) : State :=
  let r := pullWord (dummyStack (dummyPc s))
  (dummyPc (r.2.setPc r.1)).setPc (r.1 + 1)

/-! ## One meaning per row of the opcode table -/

/-- R206, `$90` rel. -/
def execBcc (d : Byte) (s : State) : Result := .next (opBranch (!s.cpu.p.c) d s)

/-- R207, `$B0` rel. -/
def execBcs (d : Byte) (s : State) : Result := .next (opBranch s.cpu.p.c d s)

/-- R208, `$F0` rel. -/
def execBeq (d : Byte) (s : State) : Result := .next (opBranch s.cpu.p.z d s)

/-- R209, `$30` rel. -/
def execBmi (d : Byte) (s : State) : Result := .next (opBranch s.cpu.p.n d s)

/-- R210, `$D0` rel. -/
def execBne (d : Byte) (s : State) : Result := .next (opBranch (!s.cpu.p.z) d s)

/-- R211, `$10` rel. -/
def execBpl (d : Byte) (s : State) : Result := .next (opBranch (!s.cpu.p.n) d s)

/-- R212, `$50` rel. -/
def execBvc (d : Byte) (s : State) : Result := .next (opBranch (!s.cpu.p.v) d s)

/-- R213, `$70` rel. -/
def execBvs (d : Byte) (s : State) : Result := .next (opBranch s.cpu.p.v d s)

/-- R214, `$4C` abs. -/
def execJmpAbs (w : Word) (s : State) : Result := .next (opJmp w s)

/-- R215, `$6C` ind. -/
def execJmpInd (w : Word) (s : State) : Result := .next (opJmpInd w s)

/-- R216, `$20` abs. -/
def execJsr (w : Word) (s : State) : Result := .next (opJsr w s)

/-- R217, `$60` imp. -/
def execRts (s : State) : Result := .next (opRts s)

end Sys2Proof.Machine
end

