-- ==== Sys2Proof/Machine/LoadStore.lean ====
section
/-! DEFINITION. Loads, stores and register transfers (40_load_store_transfer.md R140 to R152). An instruction
starts here after its opcode and operand bytes have been fetched (log 9). -/

namespace Sys2Proof.Machine

/-- R141: `A <- m; SetNZ(A)`. -/
def opLda (src : Src) (s : State) : State := (readOperand src s).2.loadA (readOperand src s).1

/-- R142: `X <- m; SetNZ(X)`. -/
def opLdx (src : Src) (s : State) : State := (readOperand src s).2.loadX (readOperand src s).1

/-- R143: `Y <- m; SetNZ(Y)`. -/
def opLdy (src : Src) (s : State) : State := (readOperand src s).2.loadY (readOperand src s).1

/-- R144: `WriteOperand(mode, A)`. -/
def opSta (m : MemMode) (s : State) : State := writeOperand m s.cpu.a s

/-- R145: `WriteOperand(mode, X)`. -/
def opStx (m : MemMode) (s : State) : State := writeOperand m s.cpu.x s

/-- R146: `WriteOperand(mode, Y)`. -/
def opSty (m : MemMode) (s : State) : State := writeOperand m s.cpu.y s

/-- R147: `X <- A; SetNZ(X)`. -/
def opTax (s : State) : State := (dummyPc s).loadX s.cpu.a

/-- R148: `Y <- A; SetNZ(Y)`. -/
def opTay (s : State) : State := (dummyPc s).loadY s.cpu.a

/-- R149: `A <- X; SetNZ(A)`. -/
def opTxa (s : State) : State := (dummyPc s).loadA s.cpu.x

/-- R150: `A <- Y; SetNZ(A)`. -/
def opTya (s : State) : State := (dummyPc s).loadA s.cpu.y

/-- R151: `X <- S; SetNZ(X)`. -/
def opTsx (s : State) : State := (dummyPc s).loadX s.cpu.s

/-- R152: `S <- X`; no flag. -/
def opTxs (s : State) : State := (dummyPc s).setS s.cpu.x

/-! ## One meaning per row of the opcode table -/

/-- R141, `$A1` izx. -/
def execLdaIzx (d : Byte) (s : State) : Result := .next (opLda (.mem (.izx d)) s)

/-- R141, `$A5` zp. -/
def execLdaZp (d : Byte) (s : State) : Result := .next (opLda (.mem (.zp d)) s)

/-- R141, `$A9` imm. -/
def execLdaImm (d : Byte) (s : State) : Result := .next (opLda (.imm d) s)

/-- R141, `$AD` abs. -/
def execLdaAbs (w : Word) (s : State) : Result := .next (opLda (.mem (.abs w)) s)

/-- R141, `$B1` izy. -/
def execLdaIzy (d : Byte) (s : State) : Result := .next (opLda (.mem (.izy d)) s)

/-- R141, `$B5` zpx. -/
def execLdaZpx (d : Byte) (s : State) : Result := .next (opLda (.mem (.zpx d)) s)

/-- R141, `$B9` aby. -/
def execLdaAby (w : Word) (s : State) : Result := .next (opLda (.mem (.aby w)) s)

/-- R141, `$BD` abx. -/
def execLdaAbx (w : Word) (s : State) : Result := .next (opLda (.mem (.abx w)) s)

/-- R142, `$A2` imm. -/
def execLdxImm (d : Byte) (s : State) : Result := .next (opLdx (.imm d) s)

/-- R142, `$A6` zp. -/
def execLdxZp (d : Byte) (s : State) : Result := .next (opLdx (.mem (.zp d)) s)

/-- R142, `$AE` abs. -/
def execLdxAbs (w : Word) (s : State) : Result := .next (opLdx (.mem (.abs w)) s)

/-- R142, `$B6` zpy. -/
def execLdxZpy (d : Byte) (s : State) : Result := .next (opLdx (.mem (.zpy d)) s)

/-- R142, `$BE` aby. -/
def execLdxAby (w : Word) (s : State) : Result := .next (opLdx (.mem (.aby w)) s)

/-- R143, `$A0` imm. -/
def execLdyImm (d : Byte) (s : State) : Result := .next (opLdy (.imm d) s)

/-- R143, `$A4` zp. -/
def execLdyZp (d : Byte) (s : State) : Result := .next (opLdy (.mem (.zp d)) s)

/-- R143, `$AC` abs. -/
def execLdyAbs (w : Word) (s : State) : Result := .next (opLdy (.mem (.abs w)) s)

/-- R143, `$B4` zpx. -/
def execLdyZpx (d : Byte) (s : State) : Result := .next (opLdy (.mem (.zpx d)) s)

/-- R143, `$BC` abx. -/
def execLdyAbx (w : Word) (s : State) : Result := .next (opLdy (.mem (.abx w)) s)

/-- R144, `$81` izx. -/
def execStaIzx (d : Byte) (s : State) : Result := .next (opSta (.izx d) s)

/-- R144, `$85` zp. -/
def execStaZp (d : Byte) (s : State) : Result := .next (opSta (.zp d) s)

/-- R144, `$8D` abs. -/
def execStaAbs (w : Word) (s : State) : Result := .next (opSta (.abs w) s)

/-- R144, `$91` izy. -/
def execStaIzy (d : Byte) (s : State) : Result := .next (opSta (.izy d) s)

/-- R144, `$95` zpx. -/
def execStaZpx (d : Byte) (s : State) : Result := .next (opSta (.zpx d) s)

/-- R144, `$99` aby. -/
def execStaAby (w : Word) (s : State) : Result := .next (opSta (.aby w) s)

/-- R144, `$9D` abx. -/
def execStaAbx (w : Word) (s : State) : Result := .next (opSta (.abx w) s)

/-- R145, `$86` zp. -/
def execStxZp (d : Byte) (s : State) : Result := .next (opStx (.zp d) s)

/-- R145, `$8E` abs. -/
def execStxAbs (w : Word) (s : State) : Result := .next (opStx (.abs w) s)

/-- R145, `$96` zpy. -/
def execStxZpy (d : Byte) (s : State) : Result := .next (opStx (.zpy d) s)

/-- R146, `$84` zp. -/
def execStyZp (d : Byte) (s : State) : Result := .next (opSty (.zp d) s)

/-- R146, `$8C` abs. -/
def execStyAbs (w : Word) (s : State) : Result := .next (opSty (.abs w) s)

/-- R146, `$94` zpx. -/
def execStyZpx (d : Byte) (s : State) : Result := .next (opSty (.zpx d) s)

/-- R147, `$AA` imp. -/
def execTax (s : State) : Result := .next (opTax s)

/-- R148, `$A8` imp. -/
def execTay (s : State) : Result := .next (opTay s)

/-- R151, `$BA` imp. -/
def execTsx (s : State) : Result := .next (opTsx s)

/-- R149, `$8A` imp. -/
def execTxa (s : State) : Result := .next (opTxa s)

/-- R152, `$9A` imp. -/
def execTxs (s : State) : Result := .next (opTxs s)

/-- R150, `$98` imp. -/
def execTya (s : State) : Result := .next (opTya s)

end Sys2Proof.Machine
end

