-- ==== Sys2Proof/Machine/Stack.lean ====
section
/-! DEFINITION. Stack push and pull (41_stack.md R160 to R164). -/

namespace Sys2Proof.Machine

/-- R161: `Push(A)`. -/
def opPha (s : State) : State := push s.cpu.a (dummyPc s)

/-- R162: `Push(P | $30)`. -/
def opPhp (s : State) : State := push (s.cpu.p.toByte true) (dummyPc s)

/-- R163: `A <- Pull(); SetNZ(A)`. -/
def opPla (s : State) : State :=
  let r := pull (dummyStack (dummyPc s))
  r.2.loadA r.1

/-- R164: the flags from the pulled byte. -/
def opPlp (s : State) : State := pullFlags (dummyStack (dummyPc s))

/-! ## One meaning per row of the opcode table -/

/-- R161, `$48` imp. -/
def execPha (s : State) : Result := .next (opPha s)

/-- R162, `$08` imp. -/
def execPhp (s : State) : Result := .next (opPhp s)

/-- R163, `$68` imp. -/
def execPla (s : State) : Result := .next (opPla s)

/-- R164, `$28` imp. -/
def execPlp (s : State) : Result := .next (opPlp s)

end Sys2Proof.Machine
end

