-- ==== Sys2Proof/Machine/System.lean ====
section
/-! DEFINITION. Flag instructions, NOP, BRK and RTI (45_flags_system.md R225 to R236). -/

namespace Sys2Proof.Machine

/-- The shape of the flag instructions (R225): the dummy read, then one flag. -/
def opFlag (f : Flags → Flags) (s : State) : State := (dummyPc s).setP (f s.cpu.p)

/-- R226. -/
def opClc (s : State) : State := opFlag (fun p => { p with c := false }) s

/-- R227. -/
def opSec (s : State) : State := opFlag (fun p => { p with c := true }) s

/-- R228. -/
def opCli (s : State) : State := opFlag (fun p => { p with i := false }) s

/-- R229. -/
def opSei (s : State) : State := opFlag (fun p => { p with i := true }) s

/-- R230. -/
def opCld (s : State) : State := opFlag (fun p => { p with d := false }) s

/-- R231. -/
def opSed (s : State) : State := opFlag (fun p => { p with d := true }) s

/-- R232. -/
def opClv (s : State) : State := opFlag (fun p => { p with v := false }) s

/-- R233. -/
def opNop (s : State) : State := dummyPc s

/-- R234: the padding byte is fetched, then the handler is entered with B = 1. -/
def opBrk (s : State) : State := enterHandler irqVector true (fetch8 s).2

/-- R235. -/
def opRti (s : State) : State := returnFromHandler (dummyStack (dummyPc s))

/-! ## One meaning per row of the opcode table -/

/-- R234, `$00` imp. -/
def execBrk (s : State) : Result := .next (opBrk s)

/-- R226, `$18` imp. -/
def execClc (s : State) : Result := .next (opClc s)

/-- R230, `$D8` imp. -/
def execCld (s : State) : Result := .next (opCld s)

/-- R228, `$58` imp. -/
def execCli (s : State) : Result := .next (opCli s)

/-- R232, `$B8` imp. -/
def execClv (s : State) : Result := .next (opClv s)

/-- R233, `$EA` imp. -/
def execNop (s : State) : Result := .next (opNop s)

/-- R235, `$40` imp. -/
def execRti (s : State) : Result := .next (opRti s)

/-- R227, `$38` imp. -/
def execSec (s : State) : Result := .next (opSec s)

/-- R231, `$F8` imp. -/
def execSed (s : State) : Result := .next (opSed s)

/-- R229, `$78` imp. -/
def execSei (s : State) : Result := .next (opSei s)

end Sys2Proof.Machine
end

