-- ==== Sys2Proof/Machine/Arithmetic.lean ====
section
/-! DEFINITION. Arithmetic, compares, increments and decrements (42_arithmetic.md R170 to R184). -/

namespace Sys2Proof.Machine

/-- R174: `(A, N, V, Z, C) <- AddWithCarry(A, m, C, D)`. -/
def opAdc (src : Src) (s : State) : State :=
  let r := readOperand src s
  r.2.setAlu (addWithCarry r.2.cpu.a r.1 r.2.cpu.p.c r.2.cpu.p.d)

/-- R175: `(A, N, V, Z, C) <- SubWithBorrow(A, m, C, D)`. -/
def opSbc (src : Src) (s : State) : State :=
  let r := readOperand src s
  r.2.setAlu (subWithBorrow r.2.cpu.a r.1 r.2.cpu.p.c r.2.cpu.p.d)

/-- `(N, Z, C) <- Compare(reg, m)` (R173). -/
def opCompare (reg : Cpu → Byte) (src : Src) (s : State) : State :=
  let r := readOperand src s
  r.2.setP (r.2.cpu.p.compare (reg r.2.cpu) r.1)

/-- R176. -/
def opCmp (src : Src) (s : State) : State := opCompare Cpu.a src s

/-- R177. -/
def opCpx (src : Src) (s : State) : State := opCompare Cpu.x src s

/-- R178. -/
def opCpy (src : Src) (s : State) : State := opCompare Cpu.y src s

/-- R181: `X <- X + 1; SetNZ(X)`. -/
def opInx (s : State) : State := (dummyPc s).loadX (s.cpu.x + 1)

/-- R182: `Y <- Y + 1; SetNZ(Y)`. -/
def opIny (s : State) : State := (dummyPc s).loadY (s.cpu.y + 1)

/-- R183: `X <- X - 1; SetNZ(X)`. -/
def opDex (s : State) : State := (dummyPc s).loadX (s.cpu.x - 1)

/-- R184: `Y <- Y - 1; SetNZ(Y)`. -/
def opDey (s : State) : State := (dummyPc s).loadY (s.cpu.y - 1)

/-! ## One meaning per row of the opcode table -/

/-- R174, `$61` izx. -/
def execAdcIzx (d : Byte) (s : State) : Result := .next (opAdc (.mem (.izx d)) s)

/-- R174, `$65` zp. -/
def execAdcZp (d : Byte) (s : State) : Result := .next (opAdc (.mem (.zp d)) s)

/-- R174, `$69` imm. -/
def execAdcImm (d : Byte) (s : State) : Result := .next (opAdc (.imm d) s)

/-- R174, `$6D` abs. -/
def execAdcAbs (w : Word) (s : State) : Result := .next (opAdc (.mem (.abs w)) s)

/-- R174, `$71` izy. -/
def execAdcIzy (d : Byte) (s : State) : Result := .next (opAdc (.mem (.izy d)) s)

/-- R174, `$75` zpx. -/
def execAdcZpx (d : Byte) (s : State) : Result := .next (opAdc (.mem (.zpx d)) s)

/-- R174, `$79` aby. -/
def execAdcAby (w : Word) (s : State) : Result := .next (opAdc (.mem (.aby w)) s)

/-- R174, `$7D` abx. -/
def execAdcAbx (w : Word) (s : State) : Result := .next (opAdc (.mem (.abx w)) s)

/-- R176, `$C1` izx. -/
def execCmpIzx (d : Byte) (s : State) : Result := .next (opCmp (.mem (.izx d)) s)

/-- R176, `$C5` zp. -/
def execCmpZp (d : Byte) (s : State) : Result := .next (opCmp (.mem (.zp d)) s)

/-- R176, `$C9` imm. -/
def execCmpImm (d : Byte) (s : State) : Result := .next (opCmp (.imm d) s)

/-- R176, `$CD` abs. -/
def execCmpAbs (w : Word) (s : State) : Result := .next (opCmp (.mem (.abs w)) s)

/-- R176, `$D1` izy. -/
def execCmpIzy (d : Byte) (s : State) : Result := .next (opCmp (.mem (.izy d)) s)

/-- R176, `$D5` zpx. -/
def execCmpZpx (d : Byte) (s : State) : Result := .next (opCmp (.mem (.zpx d)) s)

/-- R176, `$D9` aby. -/
def execCmpAby (w : Word) (s : State) : Result := .next (opCmp (.mem (.aby w)) s)

/-- R176, `$DD` abx. -/
def execCmpAbx (w : Word) (s : State) : Result := .next (opCmp (.mem (.abx w)) s)

/-- R177, `$E0` imm. -/
def execCpxImm (d : Byte) (s : State) : Result := .next (opCpx (.imm d) s)

/-- R177, `$E4` zp. -/
def execCpxZp (d : Byte) (s : State) : Result := .next (opCpx (.mem (.zp d)) s)

/-- R177, `$EC` abs. -/
def execCpxAbs (w : Word) (s : State) : Result := .next (opCpx (.mem (.abs w)) s)

/-- R178, `$C0` imm. -/
def execCpyImm (d : Byte) (s : State) : Result := .next (opCpy (.imm d) s)

/-- R178, `$C4` zp. -/
def execCpyZp (d : Byte) (s : State) : Result := .next (opCpy (.mem (.zp d)) s)

/-- R178, `$CC` abs. -/
def execCpyAbs (w : Word) (s : State) : Result := .next (opCpy (.mem (.abs w)) s)

/-- R180, `$C6` zp. -/
def execDecZp (d : Byte) (s : State) : Result := .next (opModify decrement (.zp d) s)

/-- R180, `$CE` abs. -/
def execDecAbs (w : Word) (s : State) : Result := .next (opModify decrement (.abs w) s)

/-- R180, `$D6` zpx. -/
def execDecZpx (d : Byte) (s : State) : Result := .next (opModify decrement (.zpx d) s)

/-- R180, `$DE` abx. -/
def execDecAbx (w : Word) (s : State) : Result := .next (opModify decrement (.abx w) s)

/-- R183, `$CA` imp. -/
def execDex (s : State) : Result := .next (opDex s)

/-- R184, `$88` imp. -/
def execDey (s : State) : Result := .next (opDey s)

/-- R179, `$E6` zp. -/
def execIncZp (d : Byte) (s : State) : Result := .next (opModify increment (.zp d) s)

/-- R179, `$EE` abs. -/
def execIncAbs (w : Word) (s : State) : Result := .next (opModify increment (.abs w) s)

/-- R179, `$F6` zpx. -/
def execIncZpx (d : Byte) (s : State) : Result := .next (opModify increment (.zpx d) s)

/-- R179, `$FE` abx. -/
def execIncAbx (w : Word) (s : State) : Result := .next (opModify increment (.abx w) s)

/-- R181, `$E8` imp. -/
def execInx (s : State) : Result := .next (opInx s)

/-- R182, `$C8` imp. -/
def execIny (s : State) : Result := .next (opIny s)

/-- R175, `$E1` izx. -/
def execSbcIzx (d : Byte) (s : State) : Result := .next (opSbc (.mem (.izx d)) s)

/-- R175, `$E5` zp. -/
def execSbcZp (d : Byte) (s : State) : Result := .next (opSbc (.mem (.zp d)) s)

/-- R175, `$E9` imm. -/
def execSbcImm (d : Byte) (s : State) : Result := .next (opSbc (.imm d) s)

/-- R175, `$ED` abs. -/
def execSbcAbs (w : Word) (s : State) : Result := .next (opSbc (.mem (.abs w)) s)

/-- R175, `$F1` izy. -/
def execSbcIzy (d : Byte) (s : State) : Result := .next (opSbc (.mem (.izy d)) s)

/-- R175, `$F5` zpx. -/
def execSbcZpx (d : Byte) (s : State) : Result := .next (opSbc (.mem (.zpx d)) s)

/-- R175, `$F9` aby. -/
def execSbcAby (w : Word) (s : State) : Result := .next (opSbc (.mem (.aby w)) s)

/-- R175, `$FD` abx. -/
def execSbcAbx (w : Word) (s : State) : Result := .next (opSbc (.mem (.abx w)) s)

end Sys2Proof.Machine
end

