-- ==== Sys2Proof/Machine/Logic.lean ====
section
/-! DEFINITION. Logic, BIT, shifts and rotates (43_logic_shift.md R190 to R198). -/

namespace Sys2Proof.Machine

/-- `A <- f(A, m); SetNZ(A)`: the shape of AND, ORA and EOR (R190). -/
def opLogic (f : Byte → Byte → Byte) (src : Src) (s : State) : State :=
  let r := readOperand src s
  r.2.loadA (f r.2.cpu.a r.1)

/-- R191. -/
def opAnd (src : Src) (s : State) : State := opLogic (fun a m => a &&& m) src s

/-- R192. -/
def opOra (src : Src) (s : State) : State := opLogic (fun a m => a ||| m) src s

/-- R193. -/
def opEor (src : Src) (s : State) : State := opLogic (fun a m => a ^^^ m) src s

/-- R194: Z from `A & m`, N and V from `m`. -/
def opBit (src : Src) (s : State) : State :=
  let r := readOperand src s
  r.2.setP (r.2.cpu.p.bitTest r.2.cpu.a r.1)

/-- Mode acc of the shifts and rotates (R195 to R198): `A <- f(A); SetNZ(A)`. -/
def opShiftA (f : ByteOp) (s : State) : State :=
  let o := f s.cpu.a s.cpu.p.c
  ((dummyPc s).setC o.2).loadA o.1

/-! ## One meaning per row of the opcode table -/

/-- R191, `$21` izx. -/
def execAndIzx (d : Byte) (s : State) : Result := .next (opAnd (.mem (.izx d)) s)

/-- R191, `$25` zp. -/
def execAndZp (d : Byte) (s : State) : Result := .next (opAnd (.mem (.zp d)) s)

/-- R191, `$29` imm. -/
def execAndImm (d : Byte) (s : State) : Result := .next (opAnd (.imm d) s)

/-- R191, `$2D` abs. -/
def execAndAbs (w : Word) (s : State) : Result := .next (opAnd (.mem (.abs w)) s)

/-- R191, `$31` izy. -/
def execAndIzy (d : Byte) (s : State) : Result := .next (opAnd (.mem (.izy d)) s)

/-- R191, `$35` zpx. -/
def execAndZpx (d : Byte) (s : State) : Result := .next (opAnd (.mem (.zpx d)) s)

/-- R191, `$39` aby. -/
def execAndAby (w : Word) (s : State) : Result := .next (opAnd (.mem (.aby w)) s)

/-- R191, `$3D` abx. -/
def execAndAbx (w : Word) (s : State) : Result := .next (opAnd (.mem (.abx w)) s)

/-- R195, `$06` zp. -/
def execAslZp (d : Byte) (s : State) : Result := .next (opModify shiftLeft (.zp d) s)

/-- R195, `$0A` acc. -/
def execAslAcc (s : State) : Result := .next (opShiftA shiftLeft s)

/-- R195, `$0E` abs. -/
def execAslAbs (w : Word) (s : State) : Result := .next (opModify shiftLeft (.abs w) s)

/-- R195, `$16` zpx. -/
def execAslZpx (d : Byte) (s : State) : Result := .next (opModify shiftLeft (.zpx d) s)

/-- R195, `$1E` abx. -/
def execAslAbx (w : Word) (s : State) : Result := .next (opModify shiftLeft (.abx w) s)

/-- R194, `$24` zp. -/
def execBitZp (d : Byte) (s : State) : Result := .next (opBit (.mem (.zp d)) s)

/-- R194, `$2C` abs. -/
def execBitAbs (w : Word) (s : State) : Result := .next (opBit (.mem (.abs w)) s)

/-- R193, `$41` izx. -/
def execEorIzx (d : Byte) (s : State) : Result := .next (opEor (.mem (.izx d)) s)

/-- R193, `$45` zp. -/
def execEorZp (d : Byte) (s : State) : Result := .next (opEor (.mem (.zp d)) s)

/-- R193, `$49` imm. -/
def execEorImm (d : Byte) (s : State) : Result := .next (opEor (.imm d) s)

/-- R193, `$4D` abs. -/
def execEorAbs (w : Word) (s : State) : Result := .next (opEor (.mem (.abs w)) s)

/-- R193, `$51` izy. -/
def execEorIzy (d : Byte) (s : State) : Result := .next (opEor (.mem (.izy d)) s)

/-- R193, `$55` zpx. -/
def execEorZpx (d : Byte) (s : State) : Result := .next (opEor (.mem (.zpx d)) s)

/-- R193, `$59` aby. -/
def execEorAby (w : Word) (s : State) : Result := .next (opEor (.mem (.aby w)) s)

/-- R193, `$5D` abx. -/
def execEorAbx (w : Word) (s : State) : Result := .next (opEor (.mem (.abx w)) s)

/-- R196, `$46` zp. -/
def execLsrZp (d : Byte) (s : State) : Result := .next (opModify shiftRight (.zp d) s)

/-- R196, `$4A` acc. -/
def execLsrAcc (s : State) : Result := .next (opShiftA shiftRight s)

/-- R196, `$4E` abs. -/
def execLsrAbs (w : Word) (s : State) : Result := .next (opModify shiftRight (.abs w) s)

/-- R196, `$56` zpx. -/
def execLsrZpx (d : Byte) (s : State) : Result := .next (opModify shiftRight (.zpx d) s)

/-- R196, `$5E` abx. -/
def execLsrAbx (w : Word) (s : State) : Result := .next (opModify shiftRight (.abx w) s)

/-- R192, `$01` izx. -/
def execOraIzx (d : Byte) (s : State) : Result := .next (opOra (.mem (.izx d)) s)

/-- R192, `$05` zp. -/
def execOraZp (d : Byte) (s : State) : Result := .next (opOra (.mem (.zp d)) s)

/-- R192, `$09` imm. -/
def execOraImm (d : Byte) (s : State) : Result := .next (opOra (.imm d) s)

/-- R192, `$0D` abs. -/
def execOraAbs (w : Word) (s : State) : Result := .next (opOra (.mem (.abs w)) s)

/-- R192, `$11` izy. -/
def execOraIzy (d : Byte) (s : State) : Result := .next (opOra (.mem (.izy d)) s)

/-- R192, `$15` zpx. -/
def execOraZpx (d : Byte) (s : State) : Result := .next (opOra (.mem (.zpx d)) s)

/-- R192, `$19` aby. -/
def execOraAby (w : Word) (s : State) : Result := .next (opOra (.mem (.aby w)) s)

/-- R192, `$1D` abx. -/
def execOraAbx (w : Word) (s : State) : Result := .next (opOra (.mem (.abx w)) s)

/-- R197, `$26` zp. -/
def execRolZp (d : Byte) (s : State) : Result := .next (opModify rotateLeft (.zp d) s)

/-- R197, `$2A` acc. -/
def execRolAcc (s : State) : Result := .next (opShiftA rotateLeft s)

/-- R197, `$2E` abs. -/
def execRolAbs (w : Word) (s : State) : Result := .next (opModify rotateLeft (.abs w) s)

/-- R197, `$36` zpx. -/
def execRolZpx (d : Byte) (s : State) : Result := .next (opModify rotateLeft (.zpx d) s)

/-- R197, `$3E` abx. -/
def execRolAbx (w : Word) (s : State) : Result := .next (opModify rotateLeft (.abx w) s)

/-- R198, `$66` zp. -/
def execRorZp (d : Byte) (s : State) : Result := .next (opModify rotateRight (.zp d) s)

/-- R198, `$6A` acc. -/
def execRorAcc (s : State) : Result := .next (opShiftA rotateRight s)

/-- R198, `$6E` abs. -/
def execRorAbs (w : Word) (s : State) : Result := .next (opModify rotateRight (.abs w) s)

/-- R198, `$76` zpx. -/
def execRorZpx (d : Byte) (s : State) : Result := .next (opModify rotateRight (.zpx d) s)

/-- R198, `$7E` abx. -/
def execRorAbx (w : Word) (s : State) : Result := .next (opModify rotateRight (.abx w) s)

end Sys2Proof.Machine
end

