-- ==== Sys2Proof/Machine/Undocumented.lean ====
section
/-! DEFINITION. The 105 undocumented opcode bytes under both values of `ILLEGAL_POLICY` (46_undocumented.md R240
to R263). -/

namespace Sys2Proof.Machine

/-! ## Policy -/

/-- Length of a memory mode's instruction (30_encoding.md R101). -/
def MemMode.length : MemMode → Nat
  | .abs _ => 3
  | .abx _ => 3
  | .aby _ => 3
  | .zp _ => 2
  | .zpx _ => 2
  | .zpy _ => 2
  | .izx _ => 2
  | .izy _ => 2

/-- Length of an undocumented instruction. -/
def NopForm.length : NopForm → Nat
  | .imp => 1
  | .imm => 2
  | .mem m => MemMode.length m

/-- The accesses of a no-operation after its operand bytes (R255, R263). -/
def nopAccess (form : NopForm) (s : State) : State :=
  match form with
  | .imp => dummyPc s
  | .imm => s
  | .mem m => (readOperand (.mem m) s).2

/-- An undocumented opcode (R240): `quirk`, or a no-operation with a diagnostic at its own address (R263). -/
def undocumented (form : NopForm) (opcode : Byte) (quirk : State → State) (s : State) : State :=
  match s.params.illegalPolicy with
  | .quirk => quirk s
  | .nop => diagnostic (s.cpu.pc - BitVec.ofNat 16 (NopForm.length form)) opcode (nopAccess form s)

/-! ## Stable combinations -/

/-- The shape of SLO, RLA and SRE: `new <- Modify(mode, f); A <- g(A, new); SetNZ(A)`. -/
def opModifyLogic (f : ByteOp) (g : Byte → Byte → Byte) (m : MemMode) (s : State) : State :=
  let r := modify m f s
  r.2.loadA (g r.2.cpu.a r.1)

/-- R241. -/
def opSlo (m : MemMode) (s : State) : State := opModifyLogic shiftLeft (fun a n => a ||| n) m s

/-- R242. -/
def opRla (m : MemMode) (s : State) : State := opModifyLogic rotateLeft (fun a n => a &&& n) m s

/-- R243. -/
def opSre (m : MemMode) (s : State) : State := opModifyLogic shiftRight (fun a n => a ^^^ n) m s

/-- R244: the carry that enters the addition is the bit rotated out. -/
def opRra (m : MemMode) (s : State) : State :=
  let r := modify m rotateRight s
  r.2.setAlu (addWithCarry r.2.cpu.a r.1 r.2.cpu.p.c r.2.cpu.p.d)

/-- R245: `WriteOperand(mode, A & X)`. -/
def opSax (m : MemMode) (s : State) : State := writeOperand m (s.cpu.a &&& s.cpu.x) s

/-- R246: `A <- m; X <- m; SetNZ(m)`. -/
def opLax (src : Src) (s : State) : State :=
  let r := readOperand src s
  (r.2.setA r.1).loadX r.1

/-- R247. -/
def opDcp (m : MemMode) (s : State) : State :=
  let r := modify m decrement s
  r.2.setP (r.2.cpu.p.compare r.2.cpu.a r.1)

/-- R248. -/
def opIsc (m : MemMode) (s : State) : State :=
  let r := modify m increment s
  r.2.setAlu (subWithBorrow r.2.cpu.a r.1 r.2.cpu.p.c r.2.cpu.p.d)

/-- R249: `C` is bit 7 of the result. -/
def opAnc (m : Byte) (s : State) : State := (s.loadA (s.cpu.a &&& m)).setC (s.cpu.a &&& m).msb

/-- R250. -/
def opAlr (m : Byte) (s : State) : State :=
  let o := shiftRight (s.cpu.a &&& m) s.cpu.p.c
  (s.setC o.2).loadA o.1

/-- R251. -/
def opArr (m : Byte) (s : State) : State :=
  s.setAlu (if s.cpu.p.d then arrDecimal (s.cpu.a &&& m) s.cpu.p.c else arrBinary (s.cpu.a &&& m) s.cpu.p.c)

/-- R252: `X <- (A & X) - m`, with the flags of a compare. -/
def opSbx (m : Byte) (s : State) : State :=
  let t := s.cpu.a &&& s.cpu.x
  (s.loadX (t - m)).setC (decide (m ≤ t))

/-- R254: `t <- m & S; A <- t; X <- t; S <- t; SetNZ(t)`. -/
def opLas (src : Src) (s : State) : State :=
  let r := readOperand src s
  let t := r.1 &&& r.2.cpu.s
  ((r.2.setA t).setS t).loadX t

/-! ## Unstable opcodes: the draws are free values (R256 to R261, D2, log 6) -/

/-- Count one draw for an execution of an unstable opcode. -/
def State.countUnstable (s : State) : State :=
  { s with draws := { s.draws with unstable := s.draws.unstable + 1 } }

/-- R256: `A <- (A | k) & X & m`. -/
def opAne (m : Byte) (s : State) : State :=
  s.countUnstable.loadA ((s.cpu.a ||| Config.unstableConst s.draws.unstable) &&& s.cpu.x &&& m)

/-- R257: `A <- (A | k) & m; X <- A`. -/
def opLxa (m : Byte) (s : State) : State :=
  let v := (s.cpu.a ||| Config.unstableConst s.draws.unstable) &&& m
  (s.countUnstable.setX v).loadA v

/-- The store of R258 to R261: the value is `v`, or `v & (h + 1)` when the draw says so, and then a crossed page
puts the value in place of the high address byte. -/
def unstableStore (v : Byte) (m : MemMode) (s : State) : State :=
  let r := resolve .write m s
  let andH := Config.unstableAndH s.draws.unstable
  let v' := if andH then v &&& (r.1.high + 1) else v
  let ea := if r.1.crossed && andH then wordOf v' (loByte r.1.ea) else r.1.ea
  memWrite ea v' r.2.countUnstable

/-- R258. -/
def opSha (m : MemMode) (s : State) : State := unstableStore (s.cpu.a &&& s.cpu.x) m s

/-- R259. -/
def opShx (m : MemMode) (s : State) : State := unstableStore s.cpu.x m s

/-- R260. -/
def opShy (m : MemMode) (s : State) : State := unstableStore s.cpu.y m s

/-- R261: `S <- A & X`, and S is what is stored. -/
def opTas (m : MemMode) (s : State) : State :=
  unstableStore (s.cpu.a &&& s.cpu.x) m (s.setS (s.cpu.a &&& s.cpu.x))

/-! ## JAM -/

/-- R262: halt until reset, with a diagnostic. -/
def opJam (opcode : Byte) (s : State) : State :=
  let s' := dummyPc s
  diagnostic (s.cpu.pc - 1) opcode { s' with cpu := { s'.cpu with jammed := true } }

/-! ## One meaning per row of the opcode table -/

/-- R250, `$4B` imm. -/
def execAlrImm (d : Byte) (s : State) : Result := .next (undocumented .imm 0x4B (opAlr d) s)

/-- R249, `$0B` imm. -/
def execAncImm0B (d : Byte) (s : State) : Result := .next (undocumented .imm 0x0B (opAnc d) s)

/-- R249, `$2B` imm. -/
def execAncImm2B (d : Byte) (s : State) : Result := .next (undocumented .imm 0x2B (opAnc d) s)

/-- R256, `$8B` imm. -/
def execAneImm (d : Byte) (s : State) : Result := .next (undocumented .imm 0x8B (opAne d) s)

/-- R251, `$6B` imm. -/
def execArrImm (d : Byte) (s : State) : Result := .next (undocumented .imm 0x6B (opArr d) s)

/-- R247, `$C3` izx. -/
def execDcpIzx (d : Byte) (s : State) : Result := .next (undocumented (.mem (.izx d)) 0xC3 (opDcp (.izx d)) s)

/-- R247, `$C7` zp. -/
def execDcpZp (d : Byte) (s : State) : Result := .next (undocumented (.mem (.zp d)) 0xC7 (opDcp (.zp d)) s)

/-- R247, `$CF` abs. -/
def execDcpAbs (w : Word) (s : State) : Result := .next (undocumented (.mem (.abs w)) 0xCF (opDcp (.abs w)) s)

/-- R247, `$D3` izy. -/
def execDcpIzy (d : Byte) (s : State) : Result := .next (undocumented (.mem (.izy d)) 0xD3 (opDcp (.izy d)) s)

/-- R247, `$D7` zpx. -/
def execDcpZpx (d : Byte) (s : State) : Result := .next (undocumented (.mem (.zpx d)) 0xD7 (opDcp (.zpx d)) s)

/-- R247, `$DB` aby. -/
def execDcpAby (w : Word) (s : State) : Result := .next (undocumented (.mem (.aby w)) 0xDB (opDcp (.aby w)) s)

/-- R247, `$DF` abx. -/
def execDcpAbx (w : Word) (s : State) : Result := .next (undocumented (.mem (.abx w)) 0xDF (opDcp (.abx w)) s)

/-- R248, `$E3` izx. -/
def execIscIzx (d : Byte) (s : State) : Result := .next (undocumented (.mem (.izx d)) 0xE3 (opIsc (.izx d)) s)

/-- R248, `$E7` zp. -/
def execIscZp (d : Byte) (s : State) : Result := .next (undocumented (.mem (.zp d)) 0xE7 (opIsc (.zp d)) s)

/-- R248, `$EF` abs. -/
def execIscAbs (w : Word) (s : State) : Result := .next (undocumented (.mem (.abs w)) 0xEF (opIsc (.abs w)) s)

/-- R248, `$F3` izy. -/
def execIscIzy (d : Byte) (s : State) : Result := .next (undocumented (.mem (.izy d)) 0xF3 (opIsc (.izy d)) s)

/-- R248, `$F7` zpx. -/
def execIscZpx (d : Byte) (s : State) : Result := .next (undocumented (.mem (.zpx d)) 0xF7 (opIsc (.zpx d)) s)

/-- R248, `$FB` aby. -/
def execIscAby (w : Word) (s : State) : Result := .next (undocumented (.mem (.aby w)) 0xFB (opIsc (.aby w)) s)

/-- R248, `$FF` abx. -/
def execIscAbx (w : Word) (s : State) : Result := .next (undocumented (.mem (.abx w)) 0xFF (opIsc (.abx w)) s)

/-- R262, `$02` imp. -/
def execJam02 (s : State) : Result := .next (undocumented .imp 0x02 (opJam 0x02) s)

/-- R262, `$12` imp. -/
def execJam12 (s : State) : Result := .next (undocumented .imp 0x12 (opJam 0x12) s)

/-- R262, `$22` imp. -/
def execJam22 (s : State) : Result := .next (undocumented .imp 0x22 (opJam 0x22) s)

/-- R262, `$32` imp. -/
def execJam32 (s : State) : Result := .next (undocumented .imp 0x32 (opJam 0x32) s)

/-- R262, `$42` imp. -/
def execJam42 (s : State) : Result := .next (undocumented .imp 0x42 (opJam 0x42) s)

/-- R262, `$52` imp. -/
def execJam52 (s : State) : Result := .next (undocumented .imp 0x52 (opJam 0x52) s)

/-- R262, `$62` imp. -/
def execJam62 (s : State) : Result := .next (undocumented .imp 0x62 (opJam 0x62) s)

/-- R262, `$72` imp. -/
def execJam72 (s : State) : Result := .next (undocumented .imp 0x72 (opJam 0x72) s)

/-- R262, `$92` imp. -/
def execJam92 (s : State) : Result := .next (undocumented .imp 0x92 (opJam 0x92) s)

/-- R262, `$B2` imp. -/
def execJamB2 (s : State) : Result := .next (undocumented .imp 0xB2 (opJam 0xB2) s)

/-- R262, `$D2` imp. -/
def execJamD2 (s : State) : Result := .next (undocumented .imp 0xD2 (opJam 0xD2) s)

/-- R262, `$F2` imp. -/
def execJamF2 (s : State) : Result := .next (undocumented .imp 0xF2 (opJam 0xF2) s)

/-- R254, `$BB` aby. -/
def execLasAby (w : Word) (s : State) : Result :=
  .next (undocumented (.mem (.aby w)) 0xBB (opLas (.mem (.aby w))) s)

/-- R246, `$A3` izx. -/
def execLaxIzx (d : Byte) (s : State) : Result :=
  .next (undocumented (.mem (.izx d)) 0xA3 (opLax (.mem (.izx d))) s)

/-- R246, `$A7` zp. -/
def execLaxZp (d : Byte) (s : State) : Result :=
  .next (undocumented (.mem (.zp d)) 0xA7 (opLax (.mem (.zp d))) s)

/-- R246, `$AF` abs. -/
def execLaxAbs (w : Word) (s : State) : Result :=
  .next (undocumented (.mem (.abs w)) 0xAF (opLax (.mem (.abs w))) s)

/-- R246, `$B3` izy. -/
def execLaxIzy (d : Byte) (s : State) : Result :=
  .next (undocumented (.mem (.izy d)) 0xB3 (opLax (.mem (.izy d))) s)

/-- R246, `$B7` zpy. -/
def execLaxZpy (d : Byte) (s : State) : Result :=
  .next (undocumented (.mem (.zpy d)) 0xB7 (opLax (.mem (.zpy d))) s)

/-- R246, `$BF` aby. -/
def execLaxAby (w : Word) (s : State) : Result :=
  .next (undocumented (.mem (.aby w)) 0xBF (opLax (.mem (.aby w))) s)

/-- R257, `$AB` imm. -/
def execLxaImm (d : Byte) (s : State) : Result := .next (undocumented .imm 0xAB (opLxa d) s)

/-- R255, `$04` zp. -/
def execNopZp04 (d : Byte) (s : State) : Result :=
  .next (undocumented (.mem (.zp d)) 0x04 (nopAccess (.mem (.zp d))) s)

/-- R255, `$0C` abs. -/
def execNopAbs0C (w : Word) (s : State) : Result :=
  .next (undocumented (.mem (.abs w)) 0x0C (nopAccess (.mem (.abs w))) s)

/-- R255, `$14` zpx. -/
def execNopZpx14 (d : Byte) (s : State) : Result :=
  .next (undocumented (.mem (.zpx d)) 0x14 (nopAccess (.mem (.zpx d))) s)

/-- R255, `$1A` imp. -/
def execNopImp1A (s : State) : Result := .next (undocumented .imp 0x1A (nopAccess .imp) s)

/-- R255, `$1C` abx. -/
def execNopAbx1C (w : Word) (s : State) : Result :=
  .next (undocumented (.mem (.abx w)) 0x1C (nopAccess (.mem (.abx w))) s)

/-- R255, `$34` zpx. -/
def execNopZpx34 (d : Byte) (s : State) : Result :=
  .next (undocumented (.mem (.zpx d)) 0x34 (nopAccess (.mem (.zpx d))) s)

/-- R255, `$3A` imp. -/
def execNopImp3A (s : State) : Result := .next (undocumented .imp 0x3A (nopAccess .imp) s)

/-- R255, `$3C` abx. -/
def execNopAbx3C (w : Word) (s : State) : Result :=
  .next (undocumented (.mem (.abx w)) 0x3C (nopAccess (.mem (.abx w))) s)

/-- R255, `$44` zp. -/
def execNopZp44 (d : Byte) (s : State) : Result :=
  .next (undocumented (.mem (.zp d)) 0x44 (nopAccess (.mem (.zp d))) s)

/-- R255, `$54` zpx. -/
def execNopZpx54 (d : Byte) (s : State) : Result :=
  .next (undocumented (.mem (.zpx d)) 0x54 (nopAccess (.mem (.zpx d))) s)

/-- R255, `$5A` imp. -/
def execNopImp5A (s : State) : Result := .next (undocumented .imp 0x5A (nopAccess .imp) s)

/-- R255, `$5C` abx. -/
def execNopAbx5C (w : Word) (s : State) : Result :=
  .next (undocumented (.mem (.abx w)) 0x5C (nopAccess (.mem (.abx w))) s)

/-- R255, `$64` zp. -/
def execNopZp64 (d : Byte) (s : State) : Result :=
  .next (undocumented (.mem (.zp d)) 0x64 (nopAccess (.mem (.zp d))) s)

/-- R255, `$74` zpx. -/
def execNopZpx74 (d : Byte) (s : State) : Result :=
  .next (undocumented (.mem (.zpx d)) 0x74 (nopAccess (.mem (.zpx d))) s)

/-- R255, `$7A` imp. -/
def execNopImp7A (s : State) : Result := .next (undocumented .imp 0x7A (nopAccess .imp) s)

/-- R255, `$7C` abx. -/
def execNopAbx7C (w : Word) (s : State) : Result :=
  .next (undocumented (.mem (.abx w)) 0x7C (nopAccess (.mem (.abx w))) s)

/-- R255, `$80` imm. -/
def execNopImm80 (_d : Byte) (s : State) : Result := .next (undocumented .imm 0x80 (nopAccess .imm) s)

/-- R255, `$82` imm. -/
def execNopImm82 (_d : Byte) (s : State) : Result := .next (undocumented .imm 0x82 (nopAccess .imm) s)

/-- R255, `$89` imm. -/
def execNopImm89 (_d : Byte) (s : State) : Result := .next (undocumented .imm 0x89 (nopAccess .imm) s)

/-- R255, `$C2` imm. -/
def execNopImmC2 (_d : Byte) (s : State) : Result := .next (undocumented .imm 0xC2 (nopAccess .imm) s)

/-- R255, `$D4` zpx. -/
def execNopZpxD4 (d : Byte) (s : State) : Result :=
  .next (undocumented (.mem (.zpx d)) 0xD4 (nopAccess (.mem (.zpx d))) s)

/-- R255, `$DA` imp. -/
def execNopImpDA (s : State) : Result := .next (undocumented .imp 0xDA (nopAccess .imp) s)

/-- R255, `$DC` abx. -/
def execNopAbxDC (w : Word) (s : State) : Result :=
  .next (undocumented (.mem (.abx w)) 0xDC (nopAccess (.mem (.abx w))) s)

/-- R255, `$E2` imm. -/
def execNopImmE2 (_d : Byte) (s : State) : Result := .next (undocumented .imm 0xE2 (nopAccess .imm) s)

/-- R255, `$F4` zpx. -/
def execNopZpxF4 (d : Byte) (s : State) : Result :=
  .next (undocumented (.mem (.zpx d)) 0xF4 (nopAccess (.mem (.zpx d))) s)

/-- R255, `$FA` imp. -/
def execNopImpFA (s : State) : Result := .next (undocumented .imp 0xFA (nopAccess .imp) s)

/-- R255, `$FC` abx. -/
def execNopAbxFC (w : Word) (s : State) : Result :=
  .next (undocumented (.mem (.abx w)) 0xFC (nopAccess (.mem (.abx w))) s)

/-- R242, `$23` izx. -/
def execRlaIzx (d : Byte) (s : State) : Result := .next (undocumented (.mem (.izx d)) 0x23 (opRla (.izx d)) s)

/-- R242, `$27` zp. -/
def execRlaZp (d : Byte) (s : State) : Result := .next (undocumented (.mem (.zp d)) 0x27 (opRla (.zp d)) s)

/-- R242, `$2F` abs. -/
def execRlaAbs (w : Word) (s : State) : Result := .next (undocumented (.mem (.abs w)) 0x2F (opRla (.abs w)) s)

/-- R242, `$33` izy. -/
def execRlaIzy (d : Byte) (s : State) : Result := .next (undocumented (.mem (.izy d)) 0x33 (opRla (.izy d)) s)

/-- R242, `$37` zpx. -/
def execRlaZpx (d : Byte) (s : State) : Result := .next (undocumented (.mem (.zpx d)) 0x37 (opRla (.zpx d)) s)

/-- R242, `$3B` aby. -/
def execRlaAby (w : Word) (s : State) : Result := .next (undocumented (.mem (.aby w)) 0x3B (opRla (.aby w)) s)

/-- R242, `$3F` abx. -/
def execRlaAbx (w : Word) (s : State) : Result := .next (undocumented (.mem (.abx w)) 0x3F (opRla (.abx w)) s)

/-- R244, `$63` izx. -/
def execRraIzx (d : Byte) (s : State) : Result := .next (undocumented (.mem (.izx d)) 0x63 (opRra (.izx d)) s)

/-- R244, `$67` zp. -/
def execRraZp (d : Byte) (s : State) : Result := .next (undocumented (.mem (.zp d)) 0x67 (opRra (.zp d)) s)

/-- R244, `$6F` abs. -/
def execRraAbs (w : Word) (s : State) : Result := .next (undocumented (.mem (.abs w)) 0x6F (opRra (.abs w)) s)

/-- R244, `$73` izy. -/
def execRraIzy (d : Byte) (s : State) : Result := .next (undocumented (.mem (.izy d)) 0x73 (opRra (.izy d)) s)

/-- R244, `$77` zpx. -/
def execRraZpx (d : Byte) (s : State) : Result := .next (undocumented (.mem (.zpx d)) 0x77 (opRra (.zpx d)) s)

/-- R244, `$7B` aby. -/
def execRraAby (w : Word) (s : State) : Result := .next (undocumented (.mem (.aby w)) 0x7B (opRra (.aby w)) s)

/-- R244, `$7F` abx. -/
def execRraAbx (w : Word) (s : State) : Result := .next (undocumented (.mem (.abx w)) 0x7F (opRra (.abx w)) s)

/-- R245, `$83` izx. -/
def execSaxIzx (d : Byte) (s : State) : Result := .next (undocumented (.mem (.izx d)) 0x83 (opSax (.izx d)) s)

/-- R245, `$87` zp. -/
def execSaxZp (d : Byte) (s : State) : Result := .next (undocumented (.mem (.zp d)) 0x87 (opSax (.zp d)) s)

/-- R245, `$8F` abs. -/
def execSaxAbs (w : Word) (s : State) : Result := .next (undocumented (.mem (.abs w)) 0x8F (opSax (.abs w)) s)

/-- R245, `$97` zpy. -/
def execSaxZpy (d : Byte) (s : State) : Result := .next (undocumented (.mem (.zpy d)) 0x97 (opSax (.zpy d)) s)

/-- R253, `$EB` imm. -/
def execSbcImmEB (d : Byte) (s : State) : Result := .next (undocumented .imm 0xEB (opSbc (.imm d)) s)

/-- R252, `$CB` imm. -/
def execSbxImm (d : Byte) (s : State) : Result := .next (undocumented .imm 0xCB (opSbx d) s)

/-- R258, `$93` izy. -/
def execShaIzy (d : Byte) (s : State) : Result := .next (undocumented (.mem (.izy d)) 0x93 (opSha (.izy d)) s)

/-- R258, `$9F` aby. -/
def execShaAby (w : Word) (s : State) : Result := .next (undocumented (.mem (.aby w)) 0x9F (opSha (.aby w)) s)

/-- R259, `$9E` aby. -/
def execShxAby (w : Word) (s : State) : Result := .next (undocumented (.mem (.aby w)) 0x9E (opShx (.aby w)) s)

/-- R260, `$9C` abx. -/
def execShyAbx (w : Word) (s : State) : Result := .next (undocumented (.mem (.abx w)) 0x9C (opShy (.abx w)) s)

/-- R241, `$03` izx. -/
def execSloIzx (d : Byte) (s : State) : Result := .next (undocumented (.mem (.izx d)) 0x03 (opSlo (.izx d)) s)

/-- R241, `$07` zp. -/
def execSloZp (d : Byte) (s : State) : Result := .next (undocumented (.mem (.zp d)) 0x07 (opSlo (.zp d)) s)

/-- R241, `$0F` abs. -/
def execSloAbs (w : Word) (s : State) : Result := .next (undocumented (.mem (.abs w)) 0x0F (opSlo (.abs w)) s)

/-- R241, `$13` izy. -/
def execSloIzy (d : Byte) (s : State) : Result := .next (undocumented (.mem (.izy d)) 0x13 (opSlo (.izy d)) s)

/-- R241, `$17` zpx. -/
def execSloZpx (d : Byte) (s : State) : Result := .next (undocumented (.mem (.zpx d)) 0x17 (opSlo (.zpx d)) s)

/-- R241, `$1B` aby. -/
def execSloAby (w : Word) (s : State) : Result := .next (undocumented (.mem (.aby w)) 0x1B (opSlo (.aby w)) s)

/-- R241, `$1F` abx. -/
def execSloAbx (w : Word) (s : State) : Result := .next (undocumented (.mem (.abx w)) 0x1F (opSlo (.abx w)) s)

/-- R243, `$43` izx. -/
def execSreIzx (d : Byte) (s : State) : Result := .next (undocumented (.mem (.izx d)) 0x43 (opSre (.izx d)) s)

/-- R243, `$47` zp. -/
def execSreZp (d : Byte) (s : State) : Result := .next (undocumented (.mem (.zp d)) 0x47 (opSre (.zp d)) s)

/-- R243, `$4F` abs. -/
def execSreAbs (w : Word) (s : State) : Result := .next (undocumented (.mem (.abs w)) 0x4F (opSre (.abs w)) s)

/-- R243, `$53` izy. -/
def execSreIzy (d : Byte) (s : State) : Result := .next (undocumented (.mem (.izy d)) 0x53 (opSre (.izy d)) s)

/-- R243, `$57` zpx. -/
def execSreZpx (d : Byte) (s : State) : Result := .next (undocumented (.mem (.zpx d)) 0x57 (opSre (.zpx d)) s)

/-- R243, `$5B` aby. -/
def execSreAby (w : Word) (s : State) : Result := .next (undocumented (.mem (.aby w)) 0x5B (opSre (.aby w)) s)

/-- R243, `$5F` abx. -/
def execSreAbx (w : Word) (s : State) : Result := .next (undocumented (.mem (.abx w)) 0x5F (opSre (.abx w)) s)

/-- R261, `$9B` aby. -/
def execTasAby (w : Word) (s : State) : Result := .next (undocumented (.mem (.aby w)) 0x9B (opTas (.aby w)) s)

end Sys2Proof.Machine
end

