-- ==== Sys2Proof/Machine/Scheduler.lean ====
section
/-! DEFINITION. The scheduler's share of an iteration: the chipset's tick, the cycles a step pays for, and the
instruction boundary with its breakpoints and queued host commands (60_exceptions.md R330, R331, R380 to R387). -/

namespace Sys2Proof.Machine

/-! ## The chipset's tick (R331) -/

/-- Hand an event to the host (R347, R362, R380). -/
def State.emit (e : HostEvent) (s : State) : State :=
  { s with session := { s.session with events := e :: s.session.events } }

/-- The video chip's tick, and its frame-ready event (R333, R347). -/
def tickVic (s : State) : State :=
  let r := s.vic.tick s.params.videoStandard
  let s' := { s with vic := r.1 }
  if r.2 then s'.emit .frameReady else s'

/-- The ticks of CIA1 and CIA2 (R353). -/
def tickCias (s : State) : State :=
  { s with cia1 := s.cia1.tick s.params.videoStandard, cia2 := s.cia2.tick s.params.videoStandard }

/-- The audio chip's tick, and its sample (R362). -/
def tickSid (s : State) : State :=
  let r := s.sid.tick s.params.videoStandard s.params.audioRate
  let s' := { s with sid := r.1 }
  match r.2 with
  | some v => s'.emit (.audioSample v)
  | none => s'

/-- `Chipset.tick()` in the order of R331. -/
def chipsetTick (s : State) : State := tickSid (tickCias (tickVic s))

/-- One turn of the inner loop of R330. -/
def tickCycle (s : State) : State :=
  let s := sampleNmi (chipsetTick s)
  { s with cycle := s.cycle + 1 }

/-- `steal` (R340). -/
def State.steal (s : State) : Bool := s.vic.steal s.params.videoStandard

/-- Tick until one CPU cycle is paid (R330): a stolen tick pays for none. The bound on the stolen ticks is never
reached from a line position inside the line (log 19). -/
def payCycle : Nat → State → State
  | 0, s => tickCycle s
  | bound + 1, s => if s.steal then payCycle bound (tickCycle s) else tickCycle s

/-- More ticks than a line has cycles. -/
def stealBound : Nat := 66

/-- Pay for `n` CPU cycles (R330). -/
def tickFor : Nat → State → State
  | 0, s => s
  | n + 1, s => tickFor n (payCycle stealBound s)

/-- Pay for the cycles of a reset sequence (70_reset_and_hazards.md R401). -/
def payOwed (s : State) : State := { tickFor s.owed s with owed := 0 }

/-! ## Breakpoints (R382) -/

/-- An access that a breakpoint or watch of a kind observes. -/
def BusAccess.touches (a : Word) (k : WatchKind) (e : BusAccess) : Bool :=
  match k, e with
  | .read, .read b _ => a == b
  | .write, .write b _ => a == b
  | _, _ => false

/-- The next step is a fetch. -/
def State.willFetch (s : State) : Bool := !s.cpu.jammed && s.cpu.intLatch == none

/-- An execute breakpoint that stands at the instruction about to be fetched. -/
def Breakpoint.stops (s : State) (b : Breakpoint) : Bool :=
  b.enabled && b.kind == .execute && s.willFetch && b.addr == s.cpu.pc

/-- A watch that an access of the latest step has touched. -/
def Breakpoint.watches (s : State) (b : Breakpoint) : Bool :=
  b.enabled && s.trace.any (BusAccess.touches b.addr b.kind)

/-- Enter the Monitor (R380, R381). -/
def enterMonitor (s : State) : State :=
  { s with session := { s.session with
      lifecycle := .inMonitor
      monitor := .awaitingCommand
      resumeWarp := s.session.lifecycle == .warpRunning } }

/-- The lifecycle is one in which the run-loop iterates (R386). -/
def Session.isRunning (c : Session) : Bool := c.lifecycle == .running || c.lifecycle == .warpRunning

/-- The breakpoint check of the instruction boundary. -/
def checkBreakpoints (s : State) : State :=
  if s.session.breakpoints.any (fun b => Breakpoint.stops s b || Breakpoint.watches s b) then enterMonitor s
  else s

/-- The execute breakpoints alone, after a reset sequence. -/
def checkExecute (s : State) : State :=
  if s.session.breakpoints.any (Breakpoint.stops s) then enterMonitor s else s

/-! ## Monitor commands (R380, R384, R385; log 20) -/

/-- Bytes that a dump shows: reads without side effects (20_memory.md R77). -/
def dumpBytes (s : State) (a : Word) (n : Nat) : List Byte :=
  (List.range n).map fun k => s.peek (a + BitVec.ofNat 16 k)

/-- A Monitor write to a register; a byte register takes the low byte (R384). -/
def writeRegister (r : RegName) (v : Word) (s : State) : State :=
  match r with
  | .a => s.setA (loByte v)
  | .x => s.setX (loByte v)
  | .y => s.setY (loByte v)
  | .s => s.setS (loByte v)
  | .p => s.setP (Flags.ofByte (loByte v))
  | .pc => s.setPc v

/-- One command in the Monitor. -/
def runMonitor (c : MonitorCmd) (s : State) : State :=
  match c with
  | .memoryDump a n => s.emit (.memoryDump a (dumpBytes s a n))
  | .registerDump => s.emit (.registerDump s.cpu.a s.cpu.x s.cpu.y s.cpu.s s.cpu.p s.cpu.pc)
  | .addBreakpoint b => { s with session := { s.session with breakpoints := s.session.breakpoints ++ [b] } }
  | .removeBreakpoint a k =>
    { s with session := { s.session with
        breakpoints := s.session.breakpoints.filter (fun b => !(b.addr == a && b.kind == k)) } }
  | .singleStep => { s with session := { s.session with monitor := .executing } }
  | .resume =>
    { s with session := { s.session with
        lifecycle := if s.session.resumeWarp then .warpRunning else .running
        monitor := .inactive } }
  | .listDirectory => s
  | .writeMemory a v => s.busWrite a v
  | .writeRegister r v => writeRegister r v s
  | .unparsable => s.emit .monitorSyntaxError

/-! ## Host commands (R386, R387; log 20) -/

/-- Move to a lifecycle state. -/
def State.setLifecycle (l : Lifecycle) (s : State) : State :=
  { s with session := { s.session with lifecycle := l } }

/-- A Monitor line: while the machine runs it enters the Monitor first (R381). A line that does not parse is
reported in every lifecycle state and changes none (R380). -/
def monitorLine (c : MonitorCmd) (s : State) : State :=
  if c = .unparsable then runMonitor c s else
  match s.session.lifecycle with
  | .running => runMonitor c (enterMonitor s)
  | .warpRunning => runMonitor c (enterMonitor s)
  | .inMonitor => runMonitor c s
  | .paused => s
  | .stopped => s

/-- End the session (R386). -/
def stopSession (s : State) : State :=
  { s with session := { s.session with lifecycle := .stopped, released := true, monitor := .inactive } }

/-- One host command of a session that has not been stopped. A command with no transition from the present
lifecycle state changes nothing. -/
def runHostCmd (c : HostCmd) (s : State) : State :=
  match c with
  | .start => if s.session.lifecycle = .stopped then resetSequence true s else s
  | .pause => if s.session.lifecycle = .running then s.setLifecycle .paused else s
  | .resume => if s.session.lifecycle = .paused then s.setLifecycle .running else s
  | .toggleWarp =>
    match s.session.lifecycle with
    | .running => s.setLifecycle .warpRunning
    | .warpRunning => s.setLifecycle .running
    | .paused => s
    | .inMonitor => s
    | .stopped => s
  | .activateMonitor => if s.session.isRunning then enterMonitor s else s
  | .reset hard => checkExecute (resetSequence hard s)
  | .stop => stopSession s
  | .attachDisk valid => if valid then s else s.emit .invalidImageFormat
  | .setResource => s
  | .monitor m => monitorLine m s

/-- Drain the queue in order; a single step suspends the draining until it has been made, and a stopped session
ignores what is left. -/
def drain : List HostCmd → State → State
  | [], s => { s with session := { s.session with queue := [] } }
  | c :: rest, s =>
    if s.session.monitor = .executing then { s with session := { s.session with queue := c :: rest } }
    else drain rest (if s.session.released then s else runHostCmd c s)

/-- Drain the session's own queue. -/
def drainQueue (s : State) : State := drain s.session.queue s

/-- The instruction boundary of the run-loop (R330). -/
def boundary (s : State) : State := drainQueue (checkBreakpoints s)

/-- The boundary after a single step (R383): back to AwaitingCommand. -/
def boundaryOfSingleStep (s : State) : State :=
  drainQueue { s with session := { s.session with monitor := .awaitingCommand } }

/-! ## Host inputs that bypass the queue (R311, R354, R360, R365) -/

/-- Replace the joystick-state byte; what a read may still see is kept (U21, log 12). -/
def Joystick.put (v : BitVec 5) (j : Joystick) : Joystick := { now := v, earlier := j.now :: j.earlier }

/-- `setJoystickBit`: the switch is closed (D19). -/
def Joystick.setBit (i : Fin 5) (j : Joystick) : Joystick := j.put (j.now ||| (1#5 <<< i.val))

/-- `clearJoystickBit`. -/
def Joystick.clearBit (i : Fin 5) (j : Joystick) : Joystick := j.put (j.now &&& ~~~(1#5 <<< i.val))

/-- The host moves a joystick of port 1 or 2 (R354). -/
def State.moveJoystick (port2 : Bool) (f : Joystick → Joystick) (s : State) : State :=
  if port2 then { s with input := { s.input with joy2 := f s.input.joy2 } }
  else { s with input := { s.input with joy1 := f s.input.joy1 } }

/-- The host presses or releases RESTORE; the NMI line is examined at once (R304, R311). -/
def State.moveRestore (held : Bool) (s : State) : State :=
  sampleNmi { s with input := { s.input with restore := held } }

/-- The host presses a key of the matrix (R360). -/
def State.pressKey (row column : Fin 8) (s : State) : State :=
  { s with input := { s.input with keys := (row, column) :: s.input.keys } }

/-- The host releases a key of the matrix (R360). -/
def State.releaseKey (row column : Fin 8) (s : State) : State :=
  { s with input := { s.input with keys := s.input.keys.filter (fun k => k != (row, column)) } }

/-- The drives change what they put on the serial bus (R365, log 11). -/
def State.moveDrives (lines : List DriveLines) (s : State) : State :=
  { s with input := { s.input with drives := lines } }

/-- The host queues a command (R387). -/
def State.enqueue (c : HostCmd) (s : State) : State :=
  { s with session := { s.session with queue := s.session.queue ++ [c] } }

end Sys2Proof.Machine
end

