-- ==== Sys2Proof/Machine/Cycle.lean ====
section
/-! DEFINITION. The CPU's `step()` (60_exceptions.md R300) and one iteration of the run-loop (R330). -/

namespace Sys2Proof.Machine

/-- Fetch and decode (R300): the opcode byte, then the operand bytes its length asks for. JSR fetches its high
operand byte only after its pushes (44_branch_jump.md R216): PC is left at that byte, and its value is looked at
without a bus access to make the decoding total (log 9). -/
def fetchInstr (s : State) : Instr × State :=
  let o := fetch8 s
  if o.1 = 0x20 then
    let l := fetch8 o.2
    (decodeBytes o.1 l.1 (l.2.peek l.2.cpu.pc), l.2)
  else
    match opcodeLength o.1 with
    | 1 => (decodeBytes o.1 0 0, o.2)
    | 2 => (decodeBytes o.1 (fetch8 o.2).1 0, (fetch8 o.2).2)
    | _ =>
      let l := fetch8 o.2
      let h := fetch8 l.2
      (decodeBytes o.1 l.1 h.1, h.2)

/-- `if not jammed: Retire()` (R300). -/
def retireUnlessJammed (s : State) : State := if s.cpu.jammed then s else retire s

/-- A step that fetches and executes one instruction (R300, R301). -/
def executeNext (s : State) : Result :=
  match exec (fetchInstr s).1 (fetchInstr s).2 with
  | .next t => .next (retireUnlessJammed t)
  | .fault r => .fault r
  | .refused r => .refused r

/-- A step that takes a latched interrupt (R300, R306). -/
def takeInterrupt (k : Interrupt) (s : State) : State :=
  retire (raiseInterrupt k { s with cpu := { s.cpu with intLatch := none } })

/-- A step of a jammed CPU (R300; 46_undocumented.md R262). -/
def jammedStep (s : State) : State := dummyRead 0xFFFF s

/-- The CPU's `step()` (R300). The count it returns is the length of `trace`. -/
def cpuStep (s : State) : Result :=
  let s := { s with trace := [] }
  if s.cpu.jammed then .next (jammedStep s)
  else
    match s.cpu.intLatch with
    | some k => .next (takeInterrupt k s)
    | none => executeNext s

/-- A step and the ticks it pays for (R330), then what follows at the boundary. -/
def iterate (after : State → State) (s : State) : Result :=
  match cpuStep (payOwed s) with
  | .next t => .next (after (tickFor t.trace.length t))
  | .fault r => .fault r
  | .refused r => .refused r

/-- The worker loop (R330, R383, R386): an iteration while the machine runs or makes a single step, else only
the queue is drained. -/
def runLoop (s : State) : Result :=
  match s.session.lifecycle, s.session.monitor with
  | .running, _ => iterate boundary s
  | .warpRunning, _ => iterate boundary s
  | .inMonitor, .executing => iterate boundaryOfSingleStep s
  | .inMonitor, .awaitingCommand => .next (drainQueue s)
  | .inMonitor, .inactive => .next (drainQueue s)
  | .paused, _ => .next (drainQueue s)
  | .stopped, _ => .next (drainQueue s)

end Sys2Proof.Machine
end

