-- ==== Sys2Proof/Machine/Step.lean ====
section
/-! DEFINITION. The machine's step: one turn of the worker loop (60_exceptions.md R330; log 8), and the placing of
an instruction where it fetches next (log 3). -/

namespace Sys2Proof.Machine

/-- One turn of the worker loop. -/
def step (s : State) : Host.Outcome State Fault Refusal := runLoop s

/-- `s` with the instruction whose bits are `w` stored where `step` fetches next. -/
def State.withFetchWord (s : State) (nbits w : Nat) : State := placeInstruction nbits w s

end Sys2Proof.Machine
end

