-- ==== Sys2Proof/Safety.lean ====
section
/-! DEFINITION. The terms in which claims are made: what a bus read cannot change, what memory keeps, the address
cycles and cycle counts as the spec's tables give them, and the invariant of the machine. Every step of this machine
is safe in the host's sense: none faults and none is refused (20_memory.md R61; 60_exceptions.md R301). -/

namespace Sys2Proof.Machine

/-! ## What a bus read cannot change (20_memory.md R68) -/

/-- The video chip without the two collision registers, which clear on read. -/
def Vic.steady (v : Vic) : Vic := { v with spriteSprite := 0, spriteBackground := 0 }

/-- A CIA without what a read of ICR or of the time of day changes. -/
def Cia.steady (c : Cia) : Cia :=
  { c with icrData := 0, ir := false, tod := { c.tod with latched := false, latch := ClockTime.zero } }

/-- The inputs without the joystick values a read has yet to choose from. -/
def Input.steady (i : Input) : Input := { i with joy1 := i.joy1.settle, joy2 := i.joy2.settle }

/-- The part of the state that no bus read changes: everything but the read side effects of 20_memory.md R68, the
model's counters of draws, and the list of accesses. -/
def State.steady (s : State) : State :=
  { s with
    vic := s.vic.steady
    cia1 := s.cia1.steady
    cia2 := s.cia2.steady
    input := s.input.steady
    draws := { s.draws with openBus := 0, joystick := 0, osc3 := 0 }
    trace := [] }

/-- The machine with other registers. -/
def State.withCpu (c : Cpu) (s : State) : State := { s with cpu := c }

/-- N and Z from a result (00_scope.md R8), the other flags as they are. -/
def Flags.withNZ (v : Byte) (p : Flags) : Flags := { p with n := v.getLsbD 7, z := decide (v = 0) }

/-- C, the other flags as they are. -/
def Flags.withC (c : Bool) (p : Flags) : Flags := { p with c := c }

/-- N, V, Z and C of an adder's result (42_arithmetic.md R174, R175), D and I as they are. -/
def Flags.withAdder (o : AluResult) (p : Flags) : Flags := { p with n := o.n, v := o.v, z := o.z, c := o.c }

/-- N, Z and C of a comparison (42_arithmetic.md R173), the other flags as they are. -/
def Flags.withCompare (r m : Byte) (p : Flags) : Flags :=
  { p with n := (r - m).getLsbD 7, z := decide (r = m), c := decide (m.toNat ≤ r.toNat) }

/-- The flags in a pulled status byte (10_state.md R27): bits 5 and 4 are ignored. -/
def flagsIn (m : Byte) : Flags :=
  { n := m.getLsbD 7, v := m.getLsbD 6, d := m.getLsbD 3, i := m.getLsbD 2, z := m.getLsbD 1, c := m.getLsbD 0 }

/-- The status byte that is pushed (10_state.md R27): N, V, 1, B, D, I, Z, C. -/
def pushedStatus (p : Flags) (brk : Bool) : Byte :=
  BitVec.ofNat 8 (128 * p.n.toNat + 64 * p.v.toNat + 32 + 16 * brk.toNat + 8 * p.d.toNat + 4 * p.i.toNat
    + 2 * p.z.toNat + p.c.toNat)

/-- Every byte outside the stored ones reads as before: each address that no device answers, through the map; each
byte of RAM, under a ROM or not; each nibble of colour RAM. A write of the processor port may change which store
answers elsewhere (10_state.md R31); the bytes of the stores do not change then either. -/
structure MemoryKeptBut (stored : List Word) (s t : State) : Prop where
  bytes : (∀ e ∈ stored, s.store e ≠ .portDirection ∧ s.store e ≠ .portData) →
    ∀ a : Word, a ∉ stored → s.store a ≠ .io → t.peek a = s.peek a
  ram : ∀ k : Nat, (∀ e ∈ stored, k ≠ e.toNat) → t.ram.read k = s.ram.read k
  color : ∀ k : Nat,
    (∀ e ∈ stored, s.store e ≠ .io ∨ ioDevice e ≠ .color ∨ k ≠ (e.extractLsb' 0 10).toNat) →
    t.colorRam.read k = s.colorRam.read k

/-- The bytes of the instruction stream that a step fetches before `exec` starts: all of them, but for JSR's last
(44_branch_jump.md R216) and BRK's padding byte (45_flags_system.md R234). -/
def fetchedBytes (op : Byte) : Nat := if op = 0x20 then 2 else opcodeLength op

/-- `i`, whose opcode byte is `op`, completes from `s`: `exec` gives a next state which is `r` in every register,
flag, store and device but for the side effects of its reads, it keeps every byte but the stored ones, and the whole
instruction takes `cycles` bus accesses. -/
def Completes (i : Instr) (op : Byte) (cycles : Nat) (s r : State) (stored : List Word) : Prop :=
  (encode i).head? = some op ∧
  ∃ t, exec i s = .next t ∧ t.steady = r.steady ∧ MemoryKeptBut stored s t ∧
    fetchedBytes op + t.trace.length = cycles + s.trace.length

/-- One encoding of an instruction that reads an operand: its opcode byte and its cycles. -/
structure ReadForm where
  instr : Instr
  src : Src
  opcode : Byte
  cycles : Nat

/-- One encoding of an instruction that writes or modifies memory. -/
structure MemForm where
  instr : Instr
  mode : MemMode
  opcode : Byte
  cycles : Nat

/-- One encoding of an undocumented instruction under `ILLEGAL_POLICY = Nop`. -/
structure QuietForm where
  instr : Instr
  form : NopForm
  opcode : Byte
  cycles : Nat

/-- Raster position as a count of cycles in the frame (60_exceptions.md R333). -/
def Vic.position (std : VideoStandard) (v : Vic) : Nat := v.raster.toNat * std.cyclesPerLine + (v.rcycle - 1)

/-- Run the video chip for some ticks, counting the frame-ready events. -/
def Vic.run (std : VideoStandard) : Nat → Vic → Vic × Nat
  | 0, v => (v, 0)
  | n + 1, v => ((Vic.run std n (v.tick std).1).1, (Vic.run std n (v.tick std).1).2 + if (v.tick std).2 then 1 else 0)

/-- A read of this address has a side effect on a device (20_memory.md R68). -/
def readHasEffect (a : Word) : Bool :=
  match ioDevice a with
  | .vic => a.extractLsb' 0 6 == 0x1E || a.extractLsb' 0 6 == 0x1F
  | .cia1 => a.extractLsb' 0 4 == 0x8 || a.extractLsb' 0 4 == 0xB || a.extractLsb' 0 4 == 0xD
  | .cia2 => a.extractLsb' 0 4 == 0x8 || a.extractLsb' 0 4 == 0xB || a.extractLsb' 0 4 == 0xD
  | .sid => false
  | .color => false
  | .expansion => false

/-- The state without the model's counters of draws and the joystick values a read chooses from. -/
def State.undrawn (s : State) : State :=
  { s with
    input := s.input.steady
    draws := { s.draws with openBus := 0, joystick := 0, osc3 := 0 } }

/-- The state without the distinction between Running and WarpRunning (70_reset_and_hazards.md R425). -/
def State.eraseWarp (s : State) : State :=
  { s with session := { s.session with
      lifecycle := if s.session.lifecycle = .warpRunning then .running else s.session.lifecycle
      resumeWarp := false } }

/-! ## Address cycles (30_encoding.md R109 to R116) -/

/-- The address of an access. -/
def BusAccess.addr : BusAccess → Word
  | .read a _ => a
  | .write a _ => a

/-- The pointer in zero page at `q`, whose high byte wraps inside the page. -/
def State.pointer (s : State) (q : Byte) : Word := wordOf (s.peek (zeroPage (q + 1))) (s.peek (zeroPage q))

/-- The base address a memory mode adds its 16-bit index to, and that index; no index for the others. -/
def baseAndIndex (m : MemMode) (s : State) : Word × Byte :=
  match m with
  | .zp d => (zeroPage d, 0)
  | .zpx d => (zeroPage (d + s.cpu.x), 0)
  | .zpy d => (zeroPage (d + s.cpu.y), 0)
  | .abs w => (w, 0)
  | .abx w => (w, s.cpu.x)
  | .aby w => (w, s.cpu.y)
  | .izx d => (s.pointer (d + s.cpu.x), 0)
  | .izy d => (s.pointer d, s.cpu.y)

/-- The effective address of a memory mode (30_encoding.md R101). -/
def effectiveAddress (m : MemMode) (s : State) : Word :=
  (baseAndIndex m s).1 + BitVec.ofNat 16 (baseAndIndex m s).2.toNat

/-- The index carries out of the low address byte (30_encoding.md R120). -/
def pageCrossed (m : MemMode) (s : State) : Bool :=
  decide (256 ≤ (loByte (baseAndIndex m s).1).toNat + (baseAndIndex m s).2.toNat)

/-- The addresses a mode reads to form its effective address, in order: the dummy reads and the pointer. -/
def addressCycles (k : AccessKind) (m : MemMode) (s : State) : List Word :=
  let b := baseAndIndex m s
  let eau := wordOf (hiByte b.1) (loByte b.1 + b.2)
  let fix := if k ≠ .read ∨ pageCrossed m s then [eau] else []
  match m with
  | .zp _ => []
  | .zpx d => [zeroPage d]
  | .zpy d => [zeroPage d]
  | .abs _ => []
  | .abx _ => fix
  | .aby _ => fix
  | .izx d => [zeroPage d, zeroPage (d + s.cpu.x), zeroPage (d + s.cpu.x + 1)]
  | .izy d => [zeroPage d, zeroPage (d + 1)] ++ fix

/-! ## Cycle counts (70_reset_and_hazards.md R420) -/

/-- One row of the table of R420, by the low nibble; the entries without their marks. -/
def cycleRow (row : Nat) : List Nat :=
  match row with
  | 0x0 => [7, 6, 2, 8, 3, 3, 5, 5, 3, 2, 2, 2, 4, 4, 6, 6]
  | 0x1 => [2, 5, 2, 8, 4, 4, 6, 6, 2, 4, 2, 7, 4, 4, 7, 7]
  | 0x2 => [6, 6, 2, 8, 3, 3, 5, 5, 4, 2, 2, 2, 4, 4, 6, 6]
  | 0x3 => [2, 5, 2, 8, 4, 4, 6, 6, 2, 4, 2, 7, 4, 4, 7, 7]
  | 0x4 => [6, 6, 2, 8, 3, 3, 5, 5, 3, 2, 2, 2, 3, 4, 6, 6]
  | 0x5 => [2, 5, 2, 8, 4, 4, 6, 6, 2, 4, 2, 7, 4, 4, 7, 7]
  | 0x6 => [6, 6, 2, 8, 3, 3, 5, 5, 4, 2, 2, 2, 5, 4, 6, 6]
  | 0x7 => [2, 5, 2, 8, 4, 4, 6, 6, 2, 4, 2, 7, 4, 4, 7, 7]
  | 0x8 => [2, 6, 2, 6, 3, 3, 3, 3, 2, 2, 2, 2, 4, 4, 4, 4]
  | 0x9 => [2, 6, 2, 6, 4, 4, 4, 4, 2, 5, 2, 5, 5, 5, 5, 5]
  | 0xA => [2, 6, 2, 6, 3, 3, 3, 3, 2, 2, 2, 2, 4, 4, 4, 4]
  | 0xB => [2, 5, 2, 5, 4, 4, 4, 4, 2, 4, 2, 4, 4, 4, 4, 4]
  | 0xC => [2, 6, 2, 8, 3, 3, 5, 5, 2, 2, 2, 2, 4, 4, 6, 6]
  | 0xD => [2, 5, 2, 8, 4, 4, 6, 6, 2, 4, 2, 7, 4, 4, 7, 7]
  | 0xE => [2, 6, 2, 8, 3, 3, 5, 5, 2, 2, 2, 2, 4, 4, 6, 6]
  | _ => [2, 5, 2, 8, 4, 4, 6, 6, 2, 4, 2, 7, 4, 4, 7, 7]

/-- The entry of the table of R420 for an opcode byte; 2 for JAM. -/
def tableCycles (op : Byte) : Nat := (cycleRow (op.extractLsb' 4 4).toNat).getD (op.extractLsb' 0 4).toNat 0

/-- A branch to `t` from the instruction after the branch at `pc` leaves the page (44_branch_jump.md R205). -/
def branchCrosses (pc t : Word) : Bool := hiByte pc != hiByte t

/-- The cycles a taken branch adds (R420, mark `b`). -/
def branchExtra (taken : Bool) (d : Byte) (s : State) : Nat :=
  if taken then if branchCrosses s.cpu.pc (s.cpu.pc + d.signExtend 16) then 2 else 1 else 0

/-- The cycle an indexed read adds (R420, mark `+`). -/
def crossExtra (m : MemMode) (s : State) : Nat := if pageCrossed m s then 1 else 0

/-- The run-time additions to the table (R420), by the mark of the opcode's entry. -/
def extraCycles (i : Instr) (s : State) : Nat :=
  match i with
  | .bcc d => branchExtra (!s.cpu.p.c) d s
  | .bcs d => branchExtra s.cpu.p.c d s
  | .beq d => branchExtra s.cpu.p.z d s
  | .bmi d => branchExtra s.cpu.p.n d s
  | .bne d => branchExtra (!s.cpu.p.z) d s
  | .bpl d => branchExtra (!s.cpu.p.n) d s
  | .bvc d => branchExtra (!s.cpu.p.v) d s
  | .bvs d => branchExtra s.cpu.p.v d s
  | .oraIzy d => crossExtra (.izy d) s
  | .andIzy d => crossExtra (.izy d) s
  | .eorIzy d => crossExtra (.izy d) s
  | .adcIzy d => crossExtra (.izy d) s
  | .ldaIzy d => crossExtra (.izy d) s
  | .laxIzy d => crossExtra (.izy d) s
  | .cmpIzy d => crossExtra (.izy d) s
  | .sbcIzy d => crossExtra (.izy d) s
  | .oraAby w => crossExtra (.aby w) s
  | .andAby w => crossExtra (.aby w) s
  | .eorAby w => crossExtra (.aby w) s
  | .adcAby w => crossExtra (.aby w) s
  | .ldaAby w => crossExtra (.aby w) s
  | .ldxAby w => crossExtra (.aby w) s
  | .laxAby w => crossExtra (.aby w) s
  | .lasAby w => crossExtra (.aby w) s
  | .cmpAby w => crossExtra (.aby w) s
  | .sbcAby w => crossExtra (.aby w) s
  | .oraAbx w => crossExtra (.abx w) s
  | .andAbx w => crossExtra (.abx w) s
  | .eorAbx w => crossExtra (.abx w) s
  | .adcAbx w => crossExtra (.abx w) s
  | .ldaAbx w => crossExtra (.abx w) s
  | .ldyAbx w => crossExtra (.abx w) s
  | .cmpAbx w => crossExtra (.abx w) s
  | .sbcAbx w => crossExtra (.abx w) s
  | .nopAbx1C w => crossExtra (.abx w) s
  | .nopAbx3C w => crossExtra (.abx w) s
  | .nopAbx5C w => crossExtra (.abx w) s
  | .nopAbx7C w => crossExtra (.abx w) s
  | .nopAbxDC w => crossExtra (.abx w) s
  | .nopAbxFC w => crossExtra (.abx w) s
  | _ => 0

/-! ## The invariant -/

/-- All addresses of a store lie below a bound. -/
def Memory.below {w : Nat} (n : Nat) (m : Memory w) : Prop := ∀ c ∈ m, c.1 < n

/-- What every reachable state satisfies and every step keeps. -/
structure State.Inv (s : State) : Prop where
  /-- the stores are in canonical form and inside their address ranges (10_state.md R34) -/
  ram : Memory.wf s.ram = true
  ramBelow : Memory.below 0x10000 s.ram
  color : Memory.wf s.colorRam = true
  colorBelow : Memory.below 0x400 s.colorRam
  vicRegs : Memory.wf s.vic.regs = true
  vicRegsBelow : Memory.below 0x2F s.vic.regs
  /-- the raster position lies in the frame (60_exceptions.md R332) -/
  raster : s.vic.raster.toNat < s.params.videoStandard.lines
  cycleOne : 1 ≤ s.vic.rcycle
  cycleLast : s.vic.rcycle ≤ s.params.videoStandard.cyclesPerLine
  /-- the LOAD strobe is never stored (60_exceptions.md R352) -/
  strobes : s.cia1.ta.ctrl.getLsbD 4 = false ∧ s.cia1.tb.ctrl.getLsbD 4 = false ∧
    s.cia2.ta.ctrl.getLsbD 4 = false ∧ s.cia2.tb.ctrl.getLsbD 4 = false
  /-- a jammed CPU has no interrupt latched (46_undocumented.md R262) -/
  jammed : s.cpu.jammed = true → s.cpu.intLatch = none
  /-- under `ILLEGAL_POLICY = Nop` the CPU never jams (46_undocumented.md R263) -/
  nopPolicy : s.params.illegalPolicy = .nop → s.cpu.jammed = false
  /-- the Monitor is active in the lifecycle state InMonitor only (60_exceptions.md R380, R381) -/
  monitor : s.session.lifecycle ≠ .inMonitor → s.session.monitor = .inactive
  inMonitor : s.session.lifecycle = .inMonitor → s.session.monitor ≠ .inactive
  /-- a session that has been stopped stays stopped (60_exceptions.md R386) -/
  released : s.session.released = true → s.session.lifecycle = .stopped

end Sys2Proof.Machine
end

