-- ==== Sys2Proof/WellFormed.lean ====
section
/-! DEFINITION. Well-formedness. The fields of `Instr` have exactly the widths the encoding gives them, and the
spec makes every value of every operand byte legal (30_encoding.md R103, R104, R125), so no term of `Instr`
is ruled out by an operand. What can be ill-formed is a byte string: empty, cut short, or with bytes left
over. An instruction is well-formed when its bytes are exactly one instruction. -/

namespace Sys2Proof

/-- A byte string is exactly one instruction: it has an opcode byte, and as many bytes as that byte's length
says (30_encoding.md R100, R101). -/
def isOneInstruction : List Byte → Bool
  | [] => false
  | op :: rest => rest.length + 1 == opcodeLength op

/-- The instruction's bytes are exactly one instruction. -/
def Instr.wellFormed (i : Instr) : Bool := isOneInstruction (encode i)

end Sys2Proof
end

