-- ==== Sys2Proof/Certificates/Slice0/Obligations.lean ====
section
/-! DEFINITION. The statements for the provers, one proposition each. In the statements about an instruction, `s` is
the state after the fetch of its opcode and operand bytes, so that PC is past them (log 9). -/

open Sys2Proof Sys2Proof.Machine

/-- LDA, LDX and LDY load the operand and set N and Z: Every form of LDA, LDX and LDY, with its opcode byte and
its cycles (one more when an indexed read crosses a page), completes from every state: the register is the
operand read by ReadOperand, N and Z are those of that byte, and no other register, flag, store or device changes
but for the side effects of the reads; every byte of memory reads as before. (R141, R142, R143) -/
def Obligations.LoadsSetTheRegisterAndNZ : Prop :=
  ∀ (s : State) (d : Byte) (w : Word),
    (∀ f ∈ (
        [⟨.ldaIzx d, .mem (.izx d), 0xA1, 6⟩, ⟨.ldaZp d, .mem (.zp d), 0xA5, 3⟩, ⟨.ldaImm d, .imm d, 0xA9, 2⟩,
         ⟨.ldaAbs w, .mem (.abs w), 0xAD, 4⟩, ⟨.ldaIzy d, .mem (.izy d), 0xB1, 5 + crossExtra (.izy d) s⟩,
         ⟨.ldaZpx d, .mem (.zpx d), 0xB5, 4⟩, ⟨.ldaAby w, .mem (.aby w), 0xB9, 4 + crossExtra (.aby w) s⟩,
         ⟨.ldaAbx w, .mem (.abx w), 0xBD, 4 + crossExtra (.abx w) s⟩] : List ReadForm),
      Completes f.instr f.opcode f.cycles s
        (s.withCpu { s.cpu with a := (readOperand f.src s).1, p := s.cpu.p.withNZ (readOperand f.src s).1 }) []) ∧
    (∀ f ∈ (
        [⟨.ldxImm d, .imm d, 0xA2, 2⟩, ⟨.ldxZp d, .mem (.zp d), 0xA6, 3⟩, ⟨.ldxAbs w, .mem (.abs w), 0xAE, 4⟩,
         ⟨.ldxZpy d, .mem (.zpy d), 0xB6, 4⟩,
         ⟨.ldxAby w, .mem (.aby w), 0xBE, 4 + crossExtra (.aby w) s⟩] : List ReadForm),
      Completes f.instr f.opcode f.cycles s
        (s.withCpu { s.cpu with x := (readOperand f.src s).1, p := s.cpu.p.withNZ (readOperand f.src s).1 }) []) ∧
    (∀ f ∈ (
        [⟨.ldyImm d, .imm d, 0xA0, 2⟩, ⟨.ldyZp d, .mem (.zp d), 0xA4, 3⟩, ⟨.ldyAbs w, .mem (.abs w), 0xAC, 4⟩,
         ⟨.ldyZpx d, .mem (.zpx d), 0xB4, 4⟩,
         ⟨.ldyAbx w, .mem (.abx w), 0xBC, 4 + crossExtra (.abx w) s⟩] : List ReadForm),
      Completes f.instr f.opcode f.cycles s
        (s.withCpu { s.cpu with y := (readOperand f.src s).1, p := s.cpu.p.withNZ (readOperand f.src s).1 }) [])

/-- STA, STX and STY store the register and write no flag: Every form of STA, STX and STY, with its opcode byte
and its cycles, completes from every state: one bus write of the register at the effective address of the mode;
no register and no flag changes, and every byte outside that address reads as before. (R144, R145, R146) -/
def Obligations.StoresWriteOneByte : Prop :=
  ∀ (s : State) (d : Byte) (w : Word),
    (∀ f ∈ (
        [⟨.staIzx d, .izx d, 0x81, 6⟩, ⟨.staZp d, .zp d, 0x85, 3⟩, ⟨.staAbs w, .abs w, 0x8D, 4⟩,
         ⟨.staIzy d, .izy d, 0x91, 6⟩, ⟨.staZpx d, .zpx d, 0x95, 4⟩, ⟨.staAby w, .aby w, 0x99, 5⟩,
         ⟨.staAbx w, .abx w, 0x9D, 5⟩] : List MemForm),
      Completes f.instr f.opcode f.cycles s
        (s.busWrite (resolve .write f.mode s).1.ea s.cpu.a) [(resolve .write f.mode s).1.ea]) ∧
    (∀ f ∈ (
        [⟨.stxZp d, .zp d, 0x86, 3⟩, ⟨.stxAbs w, .abs w, 0x8E, 4⟩, ⟨.stxZpy d, .zpy d, 0x96, 4⟩] : List MemForm),
      Completes f.instr f.opcode f.cycles s
        (s.busWrite (resolve .write f.mode s).1.ea s.cpu.x) [(resolve .write f.mode s).1.ea]) ∧
    (∀ f ∈ (
        [⟨.styZp d, .zp d, 0x84, 3⟩, ⟨.styAbs w, .abs w, 0x8C, 4⟩, ⟨.styZpx d, .zpx d, 0x94, 4⟩] : List MemForm),
      Completes f.instr f.opcode f.cycles s
        (s.busWrite (resolve .write f.mode s).1.ea s.cpu.y) [(resolve .write f.mode s).1.ea])

/-- TAX, TAY, TXA, TYA, TSX and TXS: Each of the six transfers completes from every state in two cycles, copies
its register, sets N and Z from the byte moved (TXS writes no flag) and changes nothing else but the side effects
of its dummy read. (R147, R148, R149, R150, R151, R152) -/
def Obligations.TransfersCopyTheRegister : Prop :=
  ∀ s : State,
    Completes .tax 0xAA 2 s (s.withCpu { s.cpu with x := s.cpu.a, p := s.cpu.p.withNZ s.cpu.a }) [] ∧
    Completes .tay 0xA8 2 s (s.withCpu { s.cpu with y := s.cpu.a, p := s.cpu.p.withNZ s.cpu.a }) [] ∧
    Completes .txa 0x8A 2 s (s.withCpu { s.cpu with a := s.cpu.x, p := s.cpu.p.withNZ s.cpu.x }) [] ∧
    Completes .tya 0x98 2 s (s.withCpu { s.cpu with a := s.cpu.y, p := s.cpu.p.withNZ s.cpu.y }) [] ∧
    Completes .tsx 0xBA 2 s (s.withCpu { s.cpu with x := s.cpu.s, p := s.cpu.p.withNZ s.cpu.s }) [] ∧
    Completes .txs 0x9A 2 s (s.withCpu { s.cpu with s := s.cpu.x }) []

/-- PHA and PHP: PHA and PHP complete from every state in three cycles: the accumulator, or the status byte with
bits 5 and 4 set, is stored in RAM at the stack address of S, S is decremented modulo 256, no other register and
no flag changes, and every other byte reads as before. (R161, R162) -/
def Obligations.PushesStoreAndMoveTheStackPointer : Prop :=
  ∀ s : State,
    Completes .pha 0x48 3 s
      ((s.writeRam (stackAddr s.cpu.s) s.cpu.a).withCpu { s.cpu with s := s.cpu.s - 1 }) [stackAddr s.cpu.s] ∧
    Completes .php 0x08 3 s
      ((s.writeRam (stackAddr s.cpu.s) (pushedStatus s.cpu.p true)).withCpu
        { s.cpu with s := s.cpu.s - 1 }) [stackAddr s.cpu.s]

/-- PLA and PLP: PLA and PLP complete from every state in four cycles: S is incremented modulo 256 and the byte
of RAM at the new stack address goes to A with N and Z, or to the six flags with bits 5 and 4 ignored; nothing
else changes but the side effects of the dummy reads. (R163, R164) -/
def Obligations.PullsLoadAndMoveTheStackPointer : Prop :=
  ∀ s : State,
    let m := s.ram.read (stackAddr (s.cpu.s + 1)).toNat
    Completes .pla 0x68 4 s (s.withCpu { s.cpu with a := m, s := s.cpu.s + 1, p := s.cpu.p.withNZ m }) [] ∧
    Completes .plp 0x28 4 s
      (s.withCpu { s.cpu with
        s := s.cpu.s + 1
        p := flagsIn m }) []

/-- ADC and SBC write A, N, V, Z and C from the adder: Every form of ADC and SBC, with its opcode byte and its
cycles, completes from every state: A, N, V, Z and C are what AddWithCarry or SubWithBorrow gives for A, the
operand read, C and D; D, I, every other register and every byte of memory are unchanged. (R174, R175) -/
def Obligations.AdcAndSbcWriteAdderResults : Prop :=
  ∀ (s : State) (d : Byte) (w : Word),
    (∀ f ∈ (
        [⟨.adcIzx d, .mem (.izx d), 0x61, 6⟩, ⟨.adcZp d, .mem (.zp d), 0x65, 3⟩, ⟨.adcImm d, .imm d, 0x69, 2⟩,
         ⟨.adcAbs w, .mem (.abs w), 0x6D, 4⟩, ⟨.adcIzy d, .mem (.izy d), 0x71, 5 + crossExtra (.izy d) s⟩,
         ⟨.adcZpx d, .mem (.zpx d), 0x75, 4⟩, ⟨.adcAby w, .mem (.aby w), 0x79, 4 + crossExtra (.aby w) s⟩,
         ⟨.adcAbx w, .mem (.abx w), 0x7D, 4 + crossExtra (.abx w) s⟩] : List ReadForm),
      let o := addWithCarry s.cpu.a (readOperand f.src s).1 s.cpu.p.c s.cpu.p.d
      Completes f.instr f.opcode f.cycles s (s.withCpu { s.cpu with a := o.r, p := s.cpu.p.withAdder o }) []) ∧
    (∀ f ∈ (
        [⟨.sbcIzx d, .mem (.izx d), 0xE1, 6⟩, ⟨.sbcZp d, .mem (.zp d), 0xE5, 3⟩, ⟨.sbcImm d, .imm d, 0xE9, 2⟩,
         ⟨.sbcAbs w, .mem (.abs w), 0xED, 4⟩, ⟨.sbcIzy d, .mem (.izy d), 0xF1, 5 + crossExtra (.izy d) s⟩,
         ⟨.sbcZpx d, .mem (.zpx d), 0xF5, 4⟩, ⟨.sbcAby w, .mem (.aby w), 0xF9, 4 + crossExtra (.aby w) s⟩,
         ⟨.sbcAbx w, .mem (.abx w), 0xFD, 4 + crossExtra (.abx w) s⟩] : List ReadForm),
      let o := subWithBorrow s.cpu.a (readOperand f.src s).1 s.cpu.p.c s.cpu.p.d
      Completes f.instr f.opcode f.cycles s (s.withCpu { s.cpu with a := o.r, p := s.cpu.p.withAdder o }) [])

/-- AddWithCarry in both modes, digit by digit: For every accumulator, memory byte and carry, AddWithCarry gives
the result and the four flags of the rule, written over the natural numbers: the 9-bit sum with its carry and
signed overflow when D = 0, and the digit-by-digit NMOS algorithm when D = 1. (R171) -/
def Obligations.AddWithCarryByTheRule : Prop :=
  ∀ (a m : Byte) (c : Bool),
    (let s := a.toNat + m.toNat + c.toNat
     let o := addWithCarry a m c false
     o.r.toNat = s % 256 ∧ o.c = decide (256 ≤ s) ∧ o.n = o.r.getLsbD 7 ∧ o.z = decide (o.r = 0) ∧
       o.v = ((a ^^^ o.r) &&& (m ^^^ o.r)).getLsbD 7 ∧
       o.v = decide (a.toInt + m.toInt + c.toNat < -128 ∨ 127 < a.toInt + m.toInt + c.toNat)) ∧
    (let o := addWithCarry a m c true
     let l0 := a.toNat % 16 + m.toNat % 16 + c.toNat
     let l := if 9 < l0 then l0 + 6 else l0
     let h0 := a.toNat / 16 + m.toNat / 16 + if 15 < l then 1 else 0
     let h := if 9 < h0 then h0 + 6 else h0
     let mid : Byte := BitVec.ofNat 8 (16 * (h0 % 16))
     o.z = decide ((a.toNat + m.toNat + c.toNat) % 256 = 0) ∧ o.n = decide (8 ≤ h0 % 16) ∧
       o.v = ((a ^^^ mid) &&& (m ^^^ mid)).getLsbD 7 ∧ o.c = decide (15 < h) ∧
       o.r.toNat = 16 * (h % 16) + l % 16)

/-- SubWithBorrow in both modes, digit by digit: For every accumulator, memory byte and carry, SubWithBorrow
gives the result and the four flags of the rule, written over the integers: the sum with the complement and its
signed overflow when D = 0; when D = 1 the same four flags and the result corrected digit by digit. (R172) -/
def Obligations.SubWithBorrowByTheRule : Prop :=
  ∀ (a m : Byte) (c : Bool),
    (let s := a.toNat + (255 - m.toNat) + c.toNat
     let o := subWithBorrow a m c false
     o.r.toNat = s % 256 ∧ o.c = decide (256 ≤ s) ∧ o.n = o.r.getLsbD 7 ∧ o.z = decide (o.r = 0) ∧
       o.v = ((a ^^^ m) &&& (a ^^^ o.r)).getLsbD 7 ∧
       o.v = decide (a.toInt - m.toInt - (1 - c.toNat) < -128 ∨ 127 < a.toInt - m.toInt - (1 - c.toNat))) ∧
    (let b := subWithBorrow a m c false
     let o := subWithBorrow a m c true
     let l0 : Int := (a.toNat : Int) % 16 - (m.toNat : Int) % 16 - (1 - c.toNat)
     let l := if l0 < 0 then l0 - 6 else l0
     let h0 : Int := (a.toNat : Int) / 16 - (m.toNat : Int) / 16 - if l0 < 0 then 1 else 0
     let h := if h0 < 0 then h0 - 6 else h0
     o.n = b.n ∧ o.v = b.v ∧ o.z = b.z ∧ o.c = b.c ∧
       ((o.r.toNat : Int) = 16 * (h % 16) + l % 16))

/-- On valid BCD operands decimal mode is decimal arithmetic: For every pair of bytes whose digits are decimal
and every carry, decimal ADC yields the two-digit decimal sum with its carry and decimal SBC the two-digit
decimal difference with its borrow; the results are again decimal digits. (42_arithmetic.md R171,
42_arithmetic.md R172) -/
def Obligations.DecimalModeAddsAndSubtractsDecimalNumbers : Prop :=
  ∀ (a m : Byte) (c : Bool),
    a.toNat % 16 ≤ 9 → a.toNat / 16 ≤ 9 → m.toNat % 16 ≤ 9 → m.toNat / 16 ≤ 9 →
    let value : Byte → Int := fun b => 10 * ((b.toNat : Int) / 16) + (b.toNat : Int) % 16
    let o := addWithCarry a m c true
    let u := subWithBorrow a m c true
    value o.r + 100 * o.c.toNat = value a + value m + c.toNat ∧
    value u.r = value a - value m - (1 - c.toNat) + 100 * (1 - u.c.toNat) ∧
    o.r.toNat % 16 ≤ 9 ∧ o.r.toNat / 16 ≤ 9 ∧ u.r.toNat % 16 ≤ 9 ∧ u.r.toNat / 16 ≤ 9

/-- CMP, CPX and CPY: Every form of CMP, CPX and CPY, with its opcode byte and its cycles, completes from every
state: N is bit 7 of the 8-bit difference, Z says that the register equals the operand, C that it is not below
it, unsigned; no register, no other flag and no byte of memory changes. (R173, R176, R177, R178) -/
def Obligations.ComparesSetNZC : Prop :=
  ∀ (s : State) (d : Byte) (w : Word),
    (∀ f ∈ (
        [⟨.cmpIzx d, .mem (.izx d), 0xC1, 6⟩, ⟨.cmpZp d, .mem (.zp d), 0xC5, 3⟩, ⟨.cmpImm d, .imm d, 0xC9, 2⟩,
         ⟨.cmpAbs w, .mem (.abs w), 0xCD, 4⟩, ⟨.cmpIzy d, .mem (.izy d), 0xD1, 5 + crossExtra (.izy d) s⟩,
         ⟨.cmpZpx d, .mem (.zpx d), 0xD5, 4⟩, ⟨.cmpAby w, .mem (.aby w), 0xD9, 4 + crossExtra (.aby w) s⟩,
         ⟨.cmpAbx w, .mem (.abx w), 0xDD, 4 + crossExtra (.abx w) s⟩] : List ReadForm),
      Completes f.instr f.opcode f.cycles s
        (s.withCpu { s.cpu with p := s.cpu.p.withCompare s.cpu.a (readOperand f.src s).1 }) []) ∧
    (∀ f ∈ (
        [⟨.cpxImm d, .imm d, 0xE0, 2⟩, ⟨.cpxZp d, .mem (.zp d), 0xE4, 3⟩,
         ⟨.cpxAbs w, .mem (.abs w), 0xEC, 4⟩] : List ReadForm),
      Completes f.instr f.opcode f.cycles s
        (s.withCpu { s.cpu with p := s.cpu.p.withCompare s.cpu.x (readOperand f.src s).1 }) []) ∧
    (∀ f ∈ (
        [⟨.cpyImm d, .imm d, 0xC0, 2⟩, ⟨.cpyZp d, .mem (.zp d), 0xC4, 3⟩,
         ⟨.cpyAbs w, .mem (.abs w), 0xCC, 4⟩] : List ReadForm),
      Completes f.instr f.opcode f.cycles s
        (s.withCpu { s.cpu with p := s.cpu.p.withCompare s.cpu.y (readOperand f.src s).1 }) [])

/-- INC and DEC: Every form of INC and DEC, with its opcode byte and its cycles, completes from every state: the
byte read at the effective address is written back and then written again plus or minus one modulo 256, N and Z
are those of the new byte, C and V and every other flag and register are unchanged, and so is every byte outside
that address. (R179, R180) -/
def Obligations.IncAndDecModifyMemory : Prop :=
  ∀ (s : State) (d : Byte) (w : Word),
    (∀ f ∈ (
        [⟨.incZp d, .zp d, 0xE6, 5⟩, ⟨.incAbs w, .abs w, 0xEE, 6⟩, ⟨.incZpx d, .zpx d, 0xF6, 6⟩,
         ⟨.incAbx w, .abx w, 0xFE, 7⟩] : List MemForm),
      let ea := (resolve .modify f.mode s).1.ea
      let old := ((resolve .modify f.mode s).2.busRead ea).1
      let new := old + 1
      Completes f.instr f.opcode f.cycles s
        (((s.busWrite ea old).busWrite ea new).withCpu { s.cpu with p := s.cpu.p.withNZ new }) [ea]) ∧
    (∀ f ∈ (
        [⟨.decZp d, .zp d, 0xC6, 5⟩, ⟨.decAbs w, .abs w, 0xCE, 6⟩, ⟨.decZpx d, .zpx d, 0xD6, 6⟩,
         ⟨.decAbx w, .abx w, 0xDE, 7⟩] : List MemForm),
      let ea := (resolve .modify f.mode s).1.ea
      let old := ((resolve .modify f.mode s).2.busRead ea).1
      let new := old - 1
      Completes f.instr f.opcode f.cycles s
        (((s.busWrite ea old).busWrite ea new).withCpu { s.cpu with p := s.cpu.p.withNZ new }) [ea])

/-- INX, INY, DEX and DEY: INX, INY, DEX and DEY complete from every state in two cycles: the register moves by
one modulo 256, N and Z are those of the result, no other flag (C and V among them) and no other register
changes, nor any byte of memory. (R181, R182, R183, R184) -/
def Obligations.IndexRegistersStepByOne : Prop :=
  ∀ s : State,
    Completes .inx 0xE8 2 s (s.withCpu { s.cpu with x := s.cpu.x + 1, p := s.cpu.p.withNZ (s.cpu.x + 1) }) [] ∧
    Completes .iny 0xC8 2 s (s.withCpu { s.cpu with y := s.cpu.y + 1, p := s.cpu.p.withNZ (s.cpu.y + 1) }) [] ∧
    Completes .dex 0xCA 2 s (s.withCpu { s.cpu with x := s.cpu.x - 1, p := s.cpu.p.withNZ (s.cpu.x - 1) }) [] ∧
    Completes .dey 0x88 2 s (s.withCpu { s.cpu with y := s.cpu.y - 1, p := s.cpu.p.withNZ (s.cpu.y - 1) }) []

/-- AND, ORA and EOR: Every form of AND, ORA and EOR, with its opcode byte and its cycles, completes from every
state: A is the bitwise combination of A and the operand read, N and Z are those of the result; C, V, D, I, every
other register and every byte of memory are unchanged. (R191, R192, R193) -/
def Obligations.LogicCombinesTheAccumulator : Prop :=
  ∀ (s : State) (d : Byte) (w : Word),
    (∀ f ∈ (
        [⟨.andIzx d, .mem (.izx d), 0x21, 6⟩, ⟨.andZp d, .mem (.zp d), 0x25, 3⟩, ⟨.andImm d, .imm d, 0x29, 2⟩,
         ⟨.andAbs w, .mem (.abs w), 0x2D, 4⟩, ⟨.andIzy d, .mem (.izy d), 0x31, 5 + crossExtra (.izy d) s⟩,
         ⟨.andZpx d, .mem (.zpx d), 0x35, 4⟩, ⟨.andAby w, .mem (.aby w), 0x39, 4 + crossExtra (.aby w) s⟩,
         ⟨.andAbx w, .mem (.abx w), 0x3D, 4 + crossExtra (.abx w) s⟩] : List ReadForm),
      let r := s.cpu.a &&& (readOperand f.src s).1
      Completes f.instr f.opcode f.cycles s (s.withCpu { s.cpu with a := r, p := s.cpu.p.withNZ r }) []) ∧
    (∀ f ∈ (
        [⟨.oraIzx d, .mem (.izx d), 0x01, 6⟩, ⟨.oraZp d, .mem (.zp d), 0x05, 3⟩, ⟨.oraImm d, .imm d, 0x09, 2⟩,
         ⟨.oraAbs w, .mem (.abs w), 0x0D, 4⟩, ⟨.oraIzy d, .mem (.izy d), 0x11, 5 + crossExtra (.izy d) s⟩,
         ⟨.oraZpx d, .mem (.zpx d), 0x15, 4⟩, ⟨.oraAby w, .mem (.aby w), 0x19, 4 + crossExtra (.aby w) s⟩,
         ⟨.oraAbx w, .mem (.abx w), 0x1D, 4 + crossExtra (.abx w) s⟩] : List ReadForm),
      let r := s.cpu.a ||| (readOperand f.src s).1
      Completes f.instr f.opcode f.cycles s (s.withCpu { s.cpu with a := r, p := s.cpu.p.withNZ r }) []) ∧
    (∀ f ∈ (
        [⟨.eorIzx d, .mem (.izx d), 0x41, 6⟩, ⟨.eorZp d, .mem (.zp d), 0x45, 3⟩, ⟨.eorImm d, .imm d, 0x49, 2⟩,
         ⟨.eorAbs w, .mem (.abs w), 0x4D, 4⟩, ⟨.eorIzy d, .mem (.izy d), 0x51, 5 + crossExtra (.izy d) s⟩,
         ⟨.eorZpx d, .mem (.zpx d), 0x55, 4⟩, ⟨.eorAby w, .mem (.aby w), 0x59, 4 + crossExtra (.aby w) s⟩,
         ⟨.eorAbx w, .mem (.abx w), 0x5D, 4 + crossExtra (.abx w) s⟩] : List ReadForm),
      let r := s.cpu.a ^^^ (readOperand f.src s).1
      Completes f.instr f.opcode f.cycles s (s.withCpu { s.cpu with a := r, p := s.cpu.p.withNZ r }) [])

/-- BIT: Both forms of BIT, with their opcode bytes and cycles, complete from every state: N and V are bits 7 and
6 of the operand read, Z says that A AND the operand is zero; C, D, I, every register and every byte of memory
are unchanged. (R194) -/
def Obligations.BitTestsMemory : Prop :=
  ∀ (s : State) (d : Byte) (w : Word),
    (∀ f ∈ (
        [⟨.bitZp d, .mem (.zp d), 0x24, 3⟩, ⟨.bitAbs w, .mem (.abs w), 0x2C, 4⟩] : List ReadForm),
      let m := (readOperand f.src s).1
      Completes f.instr f.opcode f.cycles s
        (s.withCpu { s.cpu with p := { s.cpu.p with n := m.getLsbD 7, v := m.getLsbD 6, z := decide (s.cpu.a &&& m = 0) } }) [])

/-- ASL, LSR, ROL and ROR, on the accumulator and on memory: Every form of ASL, LSR, ROL and ROR, with its opcode
byte and its cycles, completes from every state: the operand moves by one bit, the vacated bit is 0 or the old
carry, the bit that leaves goes to C, N and Z are those of the result; on memory the old byte is written back
first; V, D, I, every other register and every byte outside the effective address are unchanged. (R195, R196,
R197, R198) -/
def Obligations.ShiftsAndRotatesMoveOneBit : Prop :=
  ∀ (s : State) (d : Byte) (w : Word),
    Completes .aslAcc 0x0A 2 s
      (s.withCpu { s.cpu with
        a := (s.cpu.a <<< 1)
        p := (s.cpu.p.withNZ (s.cpu.a <<< 1)).withC (s.cpu.a.getLsbD 7) }) [] ∧
    Completes .lsrAcc 0x4A 2 s
      (s.withCpu { s.cpu with
        a := (s.cpu.a >>> 1)
        p := (s.cpu.p.withNZ (s.cpu.a >>> 1)).withC (s.cpu.a.getLsbD 0) }) [] ∧
    Completes .rolAcc 0x2A 2 s
      (s.withCpu { s.cpu with
        a := (s.cpu.a <<< 1 ||| BitVec.ofNat 8 s.cpu.p.c.toNat)
        p := (s.cpu.p.withNZ (s.cpu.a <<< 1 ||| BitVec.ofNat 8 s.cpu.p.c.toNat)).withC (s.cpu.a.getLsbD 7) }) [] ∧
    Completes .rorAcc 0x6A 2 s
      (s.withCpu { s.cpu with
        a := (s.cpu.a >>> 1 ||| BitVec.ofNat 8 (128 * s.cpu.p.c.toNat))
        p := (s.cpu.p.withNZ (s.cpu.a >>> 1 ||| BitVec.ofNat 8 (128 * s.cpu.p.c.toNat))).withC (s.cpu.a.getLsbD 0) }) [] ∧
    (∀ f ∈ (
        [⟨.aslZp d, .zp d, 0x06, 5⟩, ⟨.aslAbs w, .abs w, 0x0E, 6⟩, ⟨.aslZpx d, .zpx d, 0x16, 6⟩,
         ⟨.aslAbx w, .abx w, 0x1E, 7⟩] : List MemForm),
      let ea := (resolve .modify f.mode s).1.ea
      let old := ((resolve .modify f.mode s).2.busRead ea).1
      let new := (old <<< 1)
      Completes f.instr f.opcode f.cycles s
        (((s.busWrite ea old).busWrite ea new).withCpu
          { s.cpu with p := (s.cpu.p.withNZ new).withC (old.getLsbD 7) }) [ea]) ∧
    (∀ f ∈ (
        [⟨.lsrZp d, .zp d, 0x46, 5⟩, ⟨.lsrAbs w, .abs w, 0x4E, 6⟩, ⟨.lsrZpx d, .zpx d, 0x56, 6⟩,
         ⟨.lsrAbx w, .abx w, 0x5E, 7⟩] : List MemForm),
      let ea := (resolve .modify f.mode s).1.ea
      let old := ((resolve .modify f.mode s).2.busRead ea).1
      let new := (old >>> 1)
      Completes f.instr f.opcode f.cycles s
        (((s.busWrite ea old).busWrite ea new).withCpu
          { s.cpu with p := (s.cpu.p.withNZ new).withC (old.getLsbD 0) }) [ea]) ∧
    (∀ f ∈ (
        [⟨.rolZp d, .zp d, 0x26, 5⟩, ⟨.rolAbs w, .abs w, 0x2E, 6⟩, ⟨.rolZpx d, .zpx d, 0x36, 6⟩,
         ⟨.rolAbx w, .abx w, 0x3E, 7⟩] : List MemForm),
      let ea := (resolve .modify f.mode s).1.ea
      let old := ((resolve .modify f.mode s).2.busRead ea).1
      let new := (old <<< 1 ||| BitVec.ofNat 8 s.cpu.p.c.toNat)
      Completes f.instr f.opcode f.cycles s
        (((s.busWrite ea old).busWrite ea new).withCpu
          { s.cpu with p := (s.cpu.p.withNZ new).withC (old.getLsbD 7) }) [ea]) ∧
    (∀ f ∈ (
        [⟨.rorZp d, .zp d, 0x66, 5⟩, ⟨.rorAbs w, .abs w, 0x6E, 6⟩, ⟨.rorZpx d, .zpx d, 0x76, 6⟩,
         ⟨.rorAbx w, .abx w, 0x7E, 7⟩] : List MemForm),
      let ea := (resolve .modify f.mode s).1.ea
      let old := ((resolve .modify f.mode s).2.busRead ea).1
      let new := (old >>> 1 ||| BitVec.ofNat 8 (128 * s.cpu.p.c.toNat))
      Completes f.instr f.opcode f.cycles s
        (((s.busWrite ea old).busWrite ea new).withCpu
          { s.cpu with p := (s.cpu.p.withNZ new).withC (old.getLsbD 0) }) [ea])

/-- The eight conditional branches: Each branch, with its opcode byte, completes from every state: with PC past
the displacement, PC becomes PC plus the sign-extended displacement modulo 65536 when the flag tested has the
branch's value and stays otherwise; two cycles, three when taken, four when taken into another page; the dummy
reads of a taken branch are those of the rule; no flag, no other register and no byte of memory changes. (R205,
R206, R207, R208, R209, R210, R211, R212, R213) -/
def Obligations.BranchesTestOneFlag : Prop :=
  ∀ (s : State) (d : Byte),
    ∀ f ∈ (
      [(.bcc d, 0x90, !s.cpu.p.c), (.bcs d, 0xB0, s.cpu.p.c), (.beq d, 0xF0, s.cpu.p.z),
       (.bmi d, 0x30, s.cpu.p.n), (.bne d, 0xD0, !s.cpu.p.z), (.bpl d, 0x10, !s.cpu.p.n),
       (.bvc d, 0x50, !s.cpu.p.v), (.bvs d, 0x70, s.cpu.p.v)] : List (Instr × Byte × Bool)),
      Completes f.1 f.2.1 (2 + branchExtra f.2.2 d s) s
        (s.withCpu { s.cpu with pc := if f.2.2 then s.cpu.pc + d.signExtend 16 else s.cpu.pc }) [] ∧
      (f.2.2 = true → ∃ t, exec f.1 s = .next t ∧
        t.trace.map BusAccess.addr =
          (if branchCrosses s.cpu.pc (s.cpu.pc + d.signExtend 16) then
            [wordOf (hiByte s.cpu.pc) (loByte (s.cpu.pc + d.signExtend 16))] else [])
          ++ s.cpu.pc :: s.trace.map BusAccess.addr)

/-- JMP absolute and indirect, with the page wrap of the pointer: JMP absolute completes from every state in
three cycles with PC the operand; JMP indirect in five, with the low byte of PC read at the pointer and the high
byte at the next address inside the pointer's page; nothing else changes but the side effects of the two reads.
(R214, R215) -/
def Obligations.JumpsLoadThePc : Prop :=
  ∀ (s : State) (w : Word),
    Completes (.jmpAbs w) 0x4C 3 s (s.withCpu { s.cpu with pc := w }) [] ∧
    (let l := s.busRead w
     let h := l.2.busRead (wordOf (hiByte w) (loByte w + 1))
     Completes (.jmpInd w) 0x6C 5 s (s.withCpu { s.cpu with pc := wordOf h.1 l.1 }) [])

/-- JSR: JSR completes from every state in six cycles: after the dummy read of the stack, PC (the address of the
last byte of the JSR) is stored in the stack page high byte first and S drops by two modulo 256; then the high
byte of the target is read at that address, after the pushes, and PC is it with the low operand byte; no flag, no
other register and no other byte changes. (R216) -/
def Obligations.JsrPushesThePcAndJumps : Prop :=
  ∀ (s : State) (w : Word),
    let u := (s.writeRam (stackAddr s.cpu.s) (hiByte s.cpu.pc)).writeRam (stackAddr (s.cpu.s - 1)) (loByte s.cpu.pc)
    Completes (.jsr w) 0x20 6 s
      (u.withCpu { s.cpu with pc := wordOf (u.busRead s.cpu.pc).1 (loByte w), s := s.cpu.s - 2 })
      [stackAddr s.cpu.s, stackAddr (s.cpu.s - 1)] ∧
    ∃ t, exec (.jsr w) s = .next t ∧
      t.trace.map BusAccess.addr =
        [s.cpu.pc, stackAddr (s.cpu.s - 1), stackAddr s.cpu.s, stackAddr s.cpu.s] ++ s.trace.map BusAccess.addr

/-- RTS: RTS completes from every state in six cycles: the low and the high byte of a word are pulled from the
stack page, S rises by two modulo 256, PC is that word plus one modulo 65536, and the dummy reads are those of
the rule; no flag, no other register and no byte of memory changes. (R217) -/
def Obligations.RtsPullsThePcAndAddsOne : Prop :=
  ∀ s : State,
    let v := wordOf (s.ram.read (stackAddr (s.cpu.s + 2)).toNat) (s.ram.read (stackAddr (s.cpu.s + 1)).toNat)
    Completes .rts 0x60 6 s (s.withCpu { s.cpu with pc := v + 1, s := s.cpu.s + 2 }) [] ∧
    ∃ t, exec .rts s = .next t ∧
      t.trace.map BusAccess.addr =
        [v, stackAddr (s.cpu.s + 2), stackAddr (s.cpu.s + 1), stackAddr s.cpu.s, s.cpu.pc]
          ++ s.trace.map BusAccess.addr

/-- A subroutine called by JSR returns behind the JSR: From every state whose RAM is in canonical form, JSR and
then, with PC anywhere, RTS complete, and leave every register and flag as before the JSR but PC, which is one
past the last byte of the JSR. (44_branch_jump.md R216, 44_branch_jump.md R217) -/
def Obligations.RtsReturnsAfterJsr : Prop :=
  ∀ (s : State) (w pc : Word), Memory.wf s.ram = true → ∃ t u,
    exec (.jsr w) s = .next t ∧ exec .rts (t.withCpu { t.cpu with pc := pc }) = .next u ∧
      u.cpu = { s.cpu with pc := s.cpu.pc + 1 }

/-- CLC, SEC, CLI, SEI, CLD, SED, CLV and NOP: Each flag instruction completes from every state in two cycles and
forces its one flag; NOP changes nothing; no register, no other flag and no byte of memory changes, but for the
side effect of the dummy read. (R226, R227, R228, R229, R230, R231, R232, R233) -/
def Obligations.FlagInstructionsForceOneFlag : Prop :=
  ∀ s : State,
    Completes .clc 0x18 2 s (s.withCpu { s.cpu with p := { s.cpu.p with c := false } }) [] ∧
    Completes .sec 0x38 2 s (s.withCpu { s.cpu with p := { s.cpu.p with c := true } }) [] ∧
    Completes .cli 0x58 2 s (s.withCpu { s.cpu with p := { s.cpu.p with i := false } }) [] ∧
    Completes .sei 0x78 2 s (s.withCpu { s.cpu with p := { s.cpu.p with i := true } }) [] ∧
    Completes .cld 0xD8 2 s (s.withCpu { s.cpu with p := { s.cpu.p with d := false } }) [] ∧
    Completes .sed 0xF8 2 s (s.withCpu { s.cpu with p := { s.cpu.p with d := true } }) [] ∧
    Completes .clv 0xB8 2 s (s.withCpu { s.cpu with p := { s.cpu.p with v := false } }) [] ∧
    Completes .nop 0xEA 2 s s []

/-- BRK takes the software interrupt: BRK completes from every state in seven cycles by taking the trap whatever
I holds: the padding byte is fetched, the address after it is stored in the stack page high byte first, then the
status byte with bits 5 and 4 set; S drops by three, I is set, the other flags and A, X and Y are unchanged, PC
is the word at $FFFE and $FFFF through the map; every other byte reads as before. (R234) -/
def Obligations.BrkEntersTheIrqHandler : Prop :=
  ∀ s : State,
    let pc := s.cpu.pc + 1
    let p := pushedStatus s.cpu.p true
    let u := ((s.writeRam (stackAddr s.cpu.s) (hiByte pc)).writeRam (stackAddr (s.cpu.s - 1)) (loByte pc)).writeRam
        (stackAddr (s.cpu.s - 2)) p
    Completes .brk 0x00 7 s
      (u.withCpu { s.cpu with
        pc := wordOf (u.peek 0xFFFF) (u.peek 0xFFFE)
        s := s.cpu.s - 3
        p := { s.cpu.p with i := true } })
      [stackAddr s.cpu.s, stackAddr (s.cpu.s - 1), stackAddr (s.cpu.s - 2)]

/-- RTI returns from an exception: RTI completes from every state in six cycles: the six flags come from the byte
pulled first, bits 5 and 4 ignored, PC is the word pulled next with no increment, S rises by three modulo 256; A,
X, Y and every byte of memory are unchanged. (R235) -/
def Obligations.RtiRestoresFlagsAndPc : Prop :=
  ∀ s : State,
    let m := s.ram.read (stackAddr (s.cpu.s + 1)).toNat
    Completes .rti 0x40 6 s
      (s.withCpu { s.cpu with
        pc := wordOf (s.ram.read (stackAddr (s.cpu.s + 3)).toNat) (s.ram.read (stackAddr (s.cpu.s + 2)).toNat)
        s := s.cpu.s + 3
        p := flagsIn m }) []

/-- SLO, RLA and SRE under Quirk: Under Quirk every form of SLO, RLA and SRE, with its opcode byte and its
cycles, completes: memory at the effective address is shifted or rotated by one bit (the old byte written back
first), the bit that leaves goes to C, and the new byte is OR-ed, AND-ed or EOR-ed into A with N and Z of that
result; V, D, I, X, Y, S and every byte outside that address are unchanged. (R241, R242, R243) -/
def Obligations.SloRlaSreShiftMemoryIntoTheAccumulator : Prop :=
  ∀ (s : State) (d : Byte) (w : Word), s.params.illegalPolicy = .quirk →
    (∀ f ∈ (
        [⟨.sloIzx d, .izx d, 0x03, 8⟩, ⟨.sloZp d, .zp d, 0x07, 5⟩, ⟨.sloAbs w, .abs w, 0x0F, 6⟩,
         ⟨.sloIzy d, .izy d, 0x13, 8⟩, ⟨.sloZpx d, .zpx d, 0x17, 6⟩, ⟨.sloAby w, .aby w, 0x1B, 7⟩,
         ⟨.sloAbx w, .abx w, 0x1F, 7⟩] : List MemForm),
      let ea := (resolve .modify f.mode s).1.ea
      let old := ((resolve .modify f.mode s).2.busRead ea).1
      let new := (old <<< 1)
      let r := s.cpu.a ||| new
      Completes f.instr f.opcode f.cycles s
        (((s.busWrite ea old).busWrite ea new).withCpu
          { s.cpu with a := r, p := (s.cpu.p.withNZ r).withC (old.getLsbD 7) }) [ea]) ∧
    (∀ f ∈ (
        [⟨.rlaIzx d, .izx d, 0x23, 8⟩, ⟨.rlaZp d, .zp d, 0x27, 5⟩, ⟨.rlaAbs w, .abs w, 0x2F, 6⟩,
         ⟨.rlaIzy d, .izy d, 0x33, 8⟩, ⟨.rlaZpx d, .zpx d, 0x37, 6⟩, ⟨.rlaAby w, .aby w, 0x3B, 7⟩,
         ⟨.rlaAbx w, .abx w, 0x3F, 7⟩] : List MemForm),
      let ea := (resolve .modify f.mode s).1.ea
      let old := ((resolve .modify f.mode s).2.busRead ea).1
      let new := (old <<< 1 ||| BitVec.ofNat 8 s.cpu.p.c.toNat)
      let r := s.cpu.a &&& new
      Completes f.instr f.opcode f.cycles s
        (((s.busWrite ea old).busWrite ea new).withCpu
          { s.cpu with a := r, p := (s.cpu.p.withNZ r).withC (old.getLsbD 7) }) [ea]) ∧
    (∀ f ∈ (
        [⟨.sreIzx d, .izx d, 0x43, 8⟩, ⟨.sreZp d, .zp d, 0x47, 5⟩, ⟨.sreAbs w, .abs w, 0x4F, 6⟩,
         ⟨.sreIzy d, .izy d, 0x53, 8⟩, ⟨.sreZpx d, .zpx d, 0x57, 6⟩, ⟨.sreAby w, .aby w, 0x5B, 7⟩,
         ⟨.sreAbx w, .abx w, 0x5F, 7⟩] : List MemForm),
      let ea := (resolve .modify f.mode s).1.ea
      let old := ((resolve .modify f.mode s).2.busRead ea).1
      let new := (old >>> 1)
      let r := s.cpu.a ^^^ new
      Completes f.instr f.opcode f.cycles s
        (((s.busWrite ea old).busWrite ea new).withCpu
          { s.cpu with a := r, p := (s.cpu.p.withNZ r).withC (old.getLsbD 0) }) [ea])

/-- RRA, DCP and ISC under Quirk: Under Quirk every form of RRA, DCP and ISC, with its opcode byte and its
cycles, completes: memory at the effective address is rotated right, decremented or incremented (the old byte
written back first), and the new byte is added to A with the bit rotated out as carry, compared with A, or
subtracted from A with borrow, in the mode D selects; the other flags and registers and every byte outside that
address are unchanged. (R244, R247, R248) -/
def Obligations.RraDcpIscModifyMemoryAndUseTheAdder : Prop :=
  ∀ (s : State) (d : Byte) (w : Word), s.params.illegalPolicy = .quirk →
    (∀ f ∈ (
        [⟨.rraIzx d, .izx d, 0x63, 8⟩, ⟨.rraZp d, .zp d, 0x67, 5⟩, ⟨.rraAbs w, .abs w, 0x6F, 6⟩,
         ⟨.rraIzy d, .izy d, 0x73, 8⟩, ⟨.rraZpx d, .zpx d, 0x77, 6⟩, ⟨.rraAby w, .aby w, 0x7B, 7⟩,
         ⟨.rraAbx w, .abx w, 0x7F, 7⟩] : List MemForm),
      let ea := (resolve .modify f.mode s).1.ea
      let old := ((resolve .modify f.mode s).2.busRead ea).1
      let new := (old >>> 1 ||| BitVec.ofNat 8 (128 * s.cpu.p.c.toNat))
      let o := addWithCarry s.cpu.a new (old.getLsbD 0) s.cpu.p.d
      Completes f.instr f.opcode f.cycles s
        (((s.busWrite ea old).busWrite ea new).withCpu { s.cpu with a := o.r, p := s.cpu.p.withAdder o }) [ea]) ∧
    (∀ f ∈ (
        [⟨.dcpIzx d, .izx d, 0xC3, 8⟩, ⟨.dcpZp d, .zp d, 0xC7, 5⟩, ⟨.dcpAbs w, .abs w, 0xCF, 6⟩,
         ⟨.dcpIzy d, .izy d, 0xD3, 8⟩, ⟨.dcpZpx d, .zpx d, 0xD7, 6⟩, ⟨.dcpAby w, .aby w, 0xDB, 7⟩,
         ⟨.dcpAbx w, .abx w, 0xDF, 7⟩] : List MemForm),
      let ea := (resolve .modify f.mode s).1.ea
      let old := ((resolve .modify f.mode s).2.busRead ea).1
      let new := old - 1
      Completes f.instr f.opcode f.cycles s
        (((s.busWrite ea old).busWrite ea new).withCpu { s.cpu with p := s.cpu.p.withCompare s.cpu.a new }) [ea]) ∧
    (∀ f ∈ (
        [⟨.iscIzx d, .izx d, 0xE3, 8⟩, ⟨.iscZp d, .zp d, 0xE7, 5⟩, ⟨.iscAbs w, .abs w, 0xEF, 6⟩,
         ⟨.iscIzy d, .izy d, 0xF3, 8⟩, ⟨.iscZpx d, .zpx d, 0xF7, 6⟩, ⟨.iscAby w, .aby w, 0xFB, 7⟩,
         ⟨.iscAbx w, .abx w, 0xFF, 7⟩] : List MemForm),
      let ea := (resolve .modify f.mode s).1.ea
      let old := ((resolve .modify f.mode s).2.busRead ea).1
      let new := old + 1
      let o := subWithBorrow s.cpu.a new s.cpu.p.c s.cpu.p.d
      Completes f.instr f.opcode f.cycles s
        (((s.busWrite ea old).busWrite ea new).withCpu { s.cpu with a := o.r, p := s.cpu.p.withAdder o }) [ea])

/-- SAX, LAX and LAS under Quirk: Under Quirk every form of SAX, LAX and LAS, with its opcode byte and its
cycles, completes: SAX stores A AND X and changes no register and no flag; LAX loads A and X with the operand;
LAS loads A, X and S with the operand AND S; N and Z are those of the byte loaded; nothing else changes and every
byte outside a stored one reads as before. (R245, R246, R254) -/
def Obligations.SaxLaxLasMoveTwoRegisters : Prop :=
  ∀ (s : State) (d : Byte) (w : Word), s.params.illegalPolicy = .quirk →
    (∀ f ∈ (
        [⟨.saxIzx d, .izx d, 0x83, 6⟩, ⟨.saxZp d, .zp d, 0x87, 3⟩, ⟨.saxAbs w, .abs w, 0x8F, 4⟩,
         ⟨.saxZpy d, .zpy d, 0x97, 4⟩] : List MemForm),
      Completes f.instr f.opcode f.cycles s
        (s.busWrite (resolve .write f.mode s).1.ea (s.cpu.a &&& s.cpu.x)) [(resolve .write f.mode s).1.ea]) ∧
    (∀ f ∈ (
        [⟨.laxIzx d, .mem (.izx d), 0xA3, 6⟩, ⟨.laxZp d, .mem (.zp d), 0xA7, 3⟩,
         ⟨.laxAbs w, .mem (.abs w), 0xAF, 4⟩, ⟨.laxIzy d, .mem (.izy d), 0xB3, 5 + crossExtra (.izy d) s⟩,
         ⟨.laxZpy d, .mem (.zpy d), 0xB7, 4⟩,
         ⟨.laxAby w, .mem (.aby w), 0xBF, 4 + crossExtra (.aby w) s⟩] : List ReadForm),
      let m := (readOperand f.src s).1
      Completes f.instr f.opcode f.cycles s (s.withCpu { s.cpu with a := m, x := m, p := s.cpu.p.withNZ m }) []) ∧
    (∀ f ∈ (
        [⟨.lasAby w, .mem (.aby w), 0xBB, 4 + crossExtra (.aby w) s⟩] : List ReadForm),
      let t := (readOperand f.src s).1 &&& s.cpu.s
      Completes f.instr f.opcode f.cycles s
        (s.withCpu { s.cpu with a := t, x := t, s := t, p := s.cpu.p.withNZ t }) [])

/-- The stable immediate combinations under Quirk: Under Quirk ANC (both bytes), ALR, ARR in binary and decimal
mode, SBX and the second SBC immediate complete in two cycles with the result and the flags of their rules,
computed from A, X, the operand, C and D; every other register and flag and every byte of memory are unchanged.
(R249, R250, R251, R252, R253) -/
def Obligations.AncAlrArrSbxAndTheSecondSbc : Prop :=
  ∀ (s : State) (d : Byte), s.params.illegalPolicy = .quirk →
    (∀ f ∈ ([(.ancImm0B d, 0x0B), (.ancImm2B d, 0x2B)] : List (Instr × Byte)),
      let r := s.cpu.a &&& d
      Completes f.1 f.2 2 s (s.withCpu { s.cpu with a := r, p := (s.cpu.p.withNZ r).withC (r.getLsbD 7) }) []) ∧
    (let t := s.cpu.a &&& d
     Completes (.alrImm d) 0x4B 2 s
       (s.withCpu { s.cpu with a := t >>> 1, p := (s.cpu.p.withNZ (t >>> 1)).withC (t.getLsbD 0) }) []) ∧
    (let m := d
     let t := s.cpu.a &&& m
     let r : Byte := t >>> 1 ||| BitVec.ofNat 8 (128 * s.cpu.p.c.toNat)
     let low := t.toNat % 16
     let high := t.toNat / 16
     let r1 : Byte := if 5 < low + low % 2 then BitVec.ofNat 8 (16 * (r.toNat / 16) + (r.toNat % 16 + 6) % 16) else r
     Completes (.arrImm m) 0x6B 2 s
       (s.withCpu { s.cpu with
         a := if s.cpu.p.d then if 5 < high + high % 2 then r1 + 0x60 else r1 else r
         p := if s.cpu.p.d then
             { s.cpu.p with
                            n := s.cpu.p.c, z := decide (r = 0), v := t.getLsbD 6 ^^ r.getLsbD 6
                            c := decide (5 < high + high % 2) }
           else { s.cpu.p.withNZ r with c := r.getLsbD 6, v := r.getLsbD 6 ^^ r.getLsbD 5 } }) []) ∧
    (let t := s.cpu.a &&& s.cpu.x
     Completes (.sbxImm d) 0xCB 2 s
       (s.withCpu { s.cpu with x := t - d, p := (s.cpu.p.withNZ (t - d)).withC (decide (d.toNat ≤ t.toNat)) }) []) ∧
    (let o := subWithBorrow s.cpu.a d s.cpu.p.c s.cpu.p.d
     Completes (.sbcImmEB d) 0xEB 2 s
       (s.withCpu { s.cpu with a := o.r, p := s.cpu.p.withAdder o }) [])

/-- The 27 undocumented no-operations under Quirk: Under Quirk each of the 27 bytes completes with the cycles of
its mode and makes exactly the reads of its mode, with their side effects; no register, no flag and no byte of
memory changes. (R255) -/
def Obligations.UndocumentedNopsOnlyRead : Prop :=
  ∀ (s : State) (d : Byte) (w : Word), s.params.illegalPolicy = .quirk →
    ∀ f ∈ (
      [⟨.nopZp04 d, .mem (.zp d), 0x04, 3⟩, ⟨.nopAbs0C w, .mem (.abs w), 0x0C, 4⟩,
       ⟨.nopZpx14 d, .mem (.zpx d), 0x14, 4⟩, ⟨.nopImp1A, .imp, 0x1A, 2⟩,
       ⟨.nopAbx1C w, .mem (.abx w), 0x1C, 4 + crossExtra (.abx w) s⟩, ⟨.nopZpx34 d, .mem (.zpx d), 0x34, 4⟩,
       ⟨.nopImp3A, .imp, 0x3A, 2⟩, ⟨.nopAbx3C w, .mem (.abx w), 0x3C, 4 + crossExtra (.abx w) s⟩,
       ⟨.nopZp44 d, .mem (.zp d), 0x44, 3⟩, ⟨.nopZpx54 d, .mem (.zpx d), 0x54, 4⟩, ⟨.nopImp5A, .imp, 0x5A, 2⟩,
       ⟨.nopAbx5C w, .mem (.abx w), 0x5C, 4 + crossExtra (.abx w) s⟩, ⟨.nopZp64 d, .mem (.zp d), 0x64, 3⟩,
       ⟨.nopZpx74 d, .mem (.zpx d), 0x74, 4⟩, ⟨.nopImp7A, .imp, 0x7A, 2⟩,
       ⟨.nopAbx7C w, .mem (.abx w), 0x7C, 4 + crossExtra (.abx w) s⟩, ⟨.nopImm80 d, .imm, 0x80, 2⟩,
       ⟨.nopImm82 d, .imm, 0x82, 2⟩, ⟨.nopImm89 d, .imm, 0x89, 2⟩, ⟨.nopImmC2 d, .imm, 0xC2, 2⟩,
       ⟨.nopZpxD4 d, .mem (.zpx d), 0xD4, 4⟩, ⟨.nopImpDA, .imp, 0xDA, 2⟩,
       ⟨.nopAbxDC w, .mem (.abx w), 0xDC, 4 + crossExtra (.abx w) s⟩, ⟨.nopImmE2 d, .imm, 0xE2, 2⟩,
       ⟨.nopZpxF4 d, .mem (.zpx d), 0xF4, 4⟩, ⟨.nopImpFA, .imp, 0xFA, 2⟩,
       ⟨.nopAbxFC w, .mem (.abx w), 0xFC, 4 + crossExtra (.abx w) s⟩] : List QuietForm),
      Completes f.instr f.opcode f.cycles s s [] ∧
      ∃ t, exec f.instr s = .next t ∧
        t.trace.map BusAccess.addr =
          (match f.form with
            | .imp => [s.cpu.pc]
            | .imm => []
            | .mem m => effectiveAddress m s :: (addressCycles .read m s).reverse)
          ++ s.trace.map BusAccess.addr

/-- ANE and LXA under Quirk, for every draw: Under Quirk ANE and LXA complete in two cycles with A (and X)
computed from a constant k that is drawn anew at every execution and of which nothing is known; N and Z are those
of the result; the result does not depend on k when the operand is zero or A is $FF; nothing else changes. (R256,
R257) -/
def Obligations.AneAndLxaDependOnTheDraw : Prop :=
  ∀ (s : State) (d : Byte), s.params.illegalPolicy = .quirk →
    let k := Config.unstableConst s.draws.unstable
    let drawn := { s with draws := { s.draws with unstable := s.draws.unstable + 1 } }
    let ane := (s.cpu.a ||| k) &&& s.cpu.x &&& d
    let lxa := (s.cpu.a ||| k) &&& d
    Completes (.aneImm d) 0x8B 2 s (drawn.withCpu { s.cpu with a := ane, p := s.cpu.p.withNZ ane }) [] ∧
    Completes (.lxaImm d) 0xAB 2 s (drawn.withCpu { s.cpu with a := lxa, x := lxa, p := s.cpu.p.withNZ lxa }) [] ∧
    (d = 0 → ane = 0 ∧ lxa = 0) ∧ (s.cpu.a = 0xFF → ane = s.cpu.x &&& d ∧ lxa = d)

/-- SHA, SHX, SHY and TAS under Quirk, for every draw: Under Quirk SHA, SHX, SHY and TAS complete in the cycles
of an indexed store: the byte stored is the register combination, AND-ed with the high byte of the base address
plus one when the draw says so, and then a crossed page puts that byte in place of the high address byte; TAS
also sets S to A AND X, whatever the draw; no flag and no other register changes, and every byte outside the
stored one reads as before. (R258, R259, R260, R261) -/
def Obligations.UnstableStoresDependOnTheDraw : Prop :=
  ∀ (s : State) (d : Byte) (w : Word), s.params.illegalPolicy = .quirk →
    let drawn := { s with draws := { s.draws with unstable := s.draws.unstable + 1 } }
    (∀ f ∈ (
        [⟨.shaIzy d, .izy d, 0x93, 6⟩, ⟨.shaAby w, .aby w, 0x9F, 5⟩] : List MemForm),
      let e := (resolve .write f.mode s).1
      let h := Config.unstableAndH s.draws.unstable
      let v : Byte := if h then (s.cpu.a &&& s.cpu.x) &&& (e.high + 1) else (s.cpu.a &&& s.cpu.x)
      let ea := if h && pageCrossed f.mode s then wordOf v (loByte e.ea) else e.ea
      e.high = hiByte (baseAndIndex f.mode s).1 ∧
      Completes f.instr f.opcode f.cycles s
        ((drawn.busWrite ea v).withCpu s.cpu) [ea]) ∧
    (∀ f ∈ (
        [⟨.shxAby w, .aby w, 0x9E, 5⟩] : List MemForm),
      let e := (resolve .write f.mode s).1
      let h := Config.unstableAndH s.draws.unstable
      let v : Byte := if h then s.cpu.x &&& (e.high + 1) else s.cpu.x
      let ea := if h && pageCrossed f.mode s then wordOf v (loByte e.ea) else e.ea
      e.high = hiByte (baseAndIndex f.mode s).1 ∧
      Completes f.instr f.opcode f.cycles s
        ((drawn.busWrite ea v).withCpu s.cpu) [ea]) ∧
    (∀ f ∈ (
        [⟨.shyAbx w, .abx w, 0x9C, 5⟩] : List MemForm),
      let e := (resolve .write f.mode s).1
      let h := Config.unstableAndH s.draws.unstable
      let v : Byte := if h then s.cpu.y &&& (e.high + 1) else s.cpu.y
      let ea := if h && pageCrossed f.mode s then wordOf v (loByte e.ea) else e.ea
      e.high = hiByte (baseAndIndex f.mode s).1 ∧
      Completes f.instr f.opcode f.cycles s
        ((drawn.busWrite ea v).withCpu s.cpu) [ea]) ∧
    (∀ f ∈ (
        [⟨.tasAby w, .aby w, 0x9B, 5⟩] : List MemForm),
      let e := (resolve .write f.mode s).1
      let h := Config.unstableAndH s.draws.unstable
      let v : Byte := if h then (s.cpu.a &&& s.cpu.x) &&& (e.high + 1) else (s.cpu.a &&& s.cpu.x)
      let ea := if h && pageCrossed f.mode s then wordOf v (loByte e.ea) else e.ea
      e.high = hiByte (baseAndIndex f.mode s).1 ∧
      Completes f.instr f.opcode f.cycles s
        ((drawn.busWrite ea v).withCpu { s.cpu with s := s.cpu.a &&& s.cpu.x }) [ea])

/-- JAM under Quirk, and every later step of a jammed CPU: Under Quirk each JAM byte completes in two cycles: the
CPU is jammed, PC stays one past the opcode, one IllegalOpcode record with the address of the opcode is appended,
every register and flag keeps its value; a step of a jammed CPU makes one read of $FFFF and changes nothing,
whatever interrupt is latched or pending. (R262) -/
def Obligations.JamHaltsTheCpu : Prop :=
  ∀ (s : State), s.params.illegalPolicy = .quirk →
    (∀ f ∈ (
      [(.jam02, 0x02), (.jam12, 0x12), (.jam22, 0x22), (.jam32, 0x32), (.jam42, 0x42), (.jam52, 0x52),
       (.jam62, 0x62), (.jam72, 0x72), (.jam92, 0x92), (.jamB2, 0xB2), (.jamD2, 0xD2),
       (.jamF2, 0xF2)] : List (Instr × Byte)),
      Completes f.1 f.2 2 s
        { s.withCpu { s.cpu with jammed := true } with
          diag := s.diag ++ [{ kind := .illegalOpcode, pc := s.cpu.pc - 1, opcode := f.2 }] } []) ∧
    (s.cpu.jammed = true → ∃ t, cpuStep s = .next t ∧ t.steady = s.steady ∧
      t.trace = [.read 0xFFFF (s.peek 0xFFFF)])

/-- All 105 undocumented bytes under Nop: Under Nop each of the 105 undocumented bytes, JAM and the unstable ones
included, completes with the read-form cycles of its mode and makes exactly those reads; one IllegalOpcode record
with the address of its opcode is appended; no register, no flag and no byte of memory changes and the CPU does
not jam. (R263) -/
def Obligations.NopPolicyExecutesUndocumentedBytesAsNoOperations : Prop :=
  ∀ (s : State) (d : Byte) (w : Word), s.params.illegalPolicy = .nop →
    ∀ f ∈ (
      [⟨.jam02, .imp, 0x02, 2⟩, ⟨.sloIzx d, .mem (.izx d), 0x03, 6⟩, ⟨.nopZp04 d, .mem (.zp d), 0x04, 3⟩,
       ⟨.sloZp d, .mem (.zp d), 0x07, 3⟩, ⟨.ancImm0B d, .imm, 0x0B, 2⟩, ⟨.nopAbs0C w, .mem (.abs w), 0x0C, 4⟩,
       ⟨.sloAbs w, .mem (.abs w), 0x0F, 4⟩, ⟨.jam12, .imp, 0x12, 2⟩,
       ⟨.sloIzy d, .mem (.izy d), 0x13, 5 + crossExtra (.izy d) s⟩, ⟨.nopZpx14 d, .mem (.zpx d), 0x14, 4⟩,
       ⟨.sloZpx d, .mem (.zpx d), 0x17, 4⟩, ⟨.nopImp1A, .imp, 0x1A, 2⟩,
       ⟨.sloAby w, .mem (.aby w), 0x1B, 4 + crossExtra (.aby w) s⟩,
       ⟨.nopAbx1C w, .mem (.abx w), 0x1C, 4 + crossExtra (.abx w) s⟩,
       ⟨.sloAbx w, .mem (.abx w), 0x1F, 4 + crossExtra (.abx w) s⟩, ⟨.jam22, .imp, 0x22, 2⟩,
       ⟨.rlaIzx d, .mem (.izx d), 0x23, 6⟩, ⟨.rlaZp d, .mem (.zp d), 0x27, 3⟩, ⟨.ancImm2B d, .imm, 0x2B, 2⟩,
       ⟨.rlaAbs w, .mem (.abs w), 0x2F, 4⟩, ⟨.jam32, .imp, 0x32, 2⟩,
       ⟨.rlaIzy d, .mem (.izy d), 0x33, 5 + crossExtra (.izy d) s⟩, ⟨.nopZpx34 d, .mem (.zpx d), 0x34, 4⟩,
       ⟨.rlaZpx d, .mem (.zpx d), 0x37, 4⟩, ⟨.nopImp3A, .imp, 0x3A, 2⟩,
       ⟨.rlaAby w, .mem (.aby w), 0x3B, 4 + crossExtra (.aby w) s⟩,
       ⟨.nopAbx3C w, .mem (.abx w), 0x3C, 4 + crossExtra (.abx w) s⟩,
       ⟨.rlaAbx w, .mem (.abx w), 0x3F, 4 + crossExtra (.abx w) s⟩, ⟨.jam42, .imp, 0x42, 2⟩,
       ⟨.sreIzx d, .mem (.izx d), 0x43, 6⟩, ⟨.nopZp44 d, .mem (.zp d), 0x44, 3⟩,
       ⟨.sreZp d, .mem (.zp d), 0x47, 3⟩, ⟨.alrImm d, .imm, 0x4B, 2⟩, ⟨.sreAbs w, .mem (.abs w), 0x4F, 4⟩,
       ⟨.jam52, .imp, 0x52, 2⟩, ⟨.sreIzy d, .mem (.izy d), 0x53, 5 + crossExtra (.izy d) s⟩,
       ⟨.nopZpx54 d, .mem (.zpx d), 0x54, 4⟩, ⟨.sreZpx d, .mem (.zpx d), 0x57, 4⟩, ⟨.nopImp5A, .imp, 0x5A, 2⟩,
       ⟨.sreAby w, .mem (.aby w), 0x5B, 4 + crossExtra (.aby w) s⟩,
       ⟨.nopAbx5C w, .mem (.abx w), 0x5C, 4 + crossExtra (.abx w) s⟩,
       ⟨.sreAbx w, .mem (.abx w), 0x5F, 4 + crossExtra (.abx w) s⟩, ⟨.jam62, .imp, 0x62, 2⟩,
       ⟨.rraIzx d, .mem (.izx d), 0x63, 6⟩, ⟨.nopZp64 d, .mem (.zp d), 0x64, 3⟩,
       ⟨.rraZp d, .mem (.zp d), 0x67, 3⟩, ⟨.arrImm d, .imm, 0x6B, 2⟩, ⟨.rraAbs w, .mem (.abs w), 0x6F, 4⟩,
       ⟨.jam72, .imp, 0x72, 2⟩, ⟨.rraIzy d, .mem (.izy d), 0x73, 5 + crossExtra (.izy d) s⟩,
       ⟨.nopZpx74 d, .mem (.zpx d), 0x74, 4⟩, ⟨.rraZpx d, .mem (.zpx d), 0x77, 4⟩, ⟨.nopImp7A, .imp, 0x7A, 2⟩,
       ⟨.rraAby w, .mem (.aby w), 0x7B, 4 + crossExtra (.aby w) s⟩,
       ⟨.nopAbx7C w, .mem (.abx w), 0x7C, 4 + crossExtra (.abx w) s⟩,
       ⟨.rraAbx w, .mem (.abx w), 0x7F, 4 + crossExtra (.abx w) s⟩, ⟨.nopImm80 d, .imm, 0x80, 2⟩,
       ⟨.nopImm82 d, .imm, 0x82, 2⟩, ⟨.saxIzx d, .mem (.izx d), 0x83, 6⟩, ⟨.saxZp d, .mem (.zp d), 0x87, 3⟩,
       ⟨.nopImm89 d, .imm, 0x89, 2⟩, ⟨.aneImm d, .imm, 0x8B, 2⟩, ⟨.saxAbs w, .mem (.abs w), 0x8F, 4⟩,
       ⟨.jam92, .imp, 0x92, 2⟩, ⟨.shaIzy d, .mem (.izy d), 0x93, 5 + crossExtra (.izy d) s⟩,
       ⟨.saxZpy d, .mem (.zpy d), 0x97, 4⟩, ⟨.tasAby w, .mem (.aby w), 0x9B, 4 + crossExtra (.aby w) s⟩,
       ⟨.shyAbx w, .mem (.abx w), 0x9C, 4 + crossExtra (.abx w) s⟩,
       ⟨.shxAby w, .mem (.aby w), 0x9E, 4 + crossExtra (.aby w) s⟩,
       ⟨.shaAby w, .mem (.aby w), 0x9F, 4 + crossExtra (.aby w) s⟩, ⟨.laxIzx d, .mem (.izx d), 0xA3, 6⟩,
       ⟨.laxZp d, .mem (.zp d), 0xA7, 3⟩, ⟨.lxaImm d, .imm, 0xAB, 2⟩, ⟨.laxAbs w, .mem (.abs w), 0xAF, 4⟩,
       ⟨.jamB2, .imp, 0xB2, 2⟩, ⟨.laxIzy d, .mem (.izy d), 0xB3, 5 + crossExtra (.izy d) s⟩,
       ⟨.laxZpy d, .mem (.zpy d), 0xB7, 4⟩, ⟨.lasAby w, .mem (.aby w), 0xBB, 4 + crossExtra (.aby w) s⟩,
       ⟨.laxAby w, .mem (.aby w), 0xBF, 4 + crossExtra (.aby w) s⟩, ⟨.nopImmC2 d, .imm, 0xC2, 2⟩,
       ⟨.dcpIzx d, .mem (.izx d), 0xC3, 6⟩, ⟨.dcpZp d, .mem (.zp d), 0xC7, 3⟩, ⟨.sbxImm d, .imm, 0xCB, 2⟩,
       ⟨.dcpAbs w, .mem (.abs w), 0xCF, 4⟩, ⟨.jamD2, .imp, 0xD2, 2⟩,
       ⟨.dcpIzy d, .mem (.izy d), 0xD3, 5 + crossExtra (.izy d) s⟩, ⟨.nopZpxD4 d, .mem (.zpx d), 0xD4, 4⟩,
       ⟨.dcpZpx d, .mem (.zpx d), 0xD7, 4⟩, ⟨.nopImpDA, .imp, 0xDA, 2⟩,
       ⟨.dcpAby w, .mem (.aby w), 0xDB, 4 + crossExtra (.aby w) s⟩,
       ⟨.nopAbxDC w, .mem (.abx w), 0xDC, 4 + crossExtra (.abx w) s⟩,
       ⟨.dcpAbx w, .mem (.abx w), 0xDF, 4 + crossExtra (.abx w) s⟩, ⟨.nopImmE2 d, .imm, 0xE2, 2⟩,
       ⟨.iscIzx d, .mem (.izx d), 0xE3, 6⟩, ⟨.iscZp d, .mem (.zp d), 0xE7, 3⟩, ⟨.sbcImmEB d, .imm, 0xEB, 2⟩,
       ⟨.iscAbs w, .mem (.abs w), 0xEF, 4⟩, ⟨.jamF2, .imp, 0xF2, 2⟩,
       ⟨.iscIzy d, .mem (.izy d), 0xF3, 5 + crossExtra (.izy d) s⟩, ⟨.nopZpxF4 d, .mem (.zpx d), 0xF4, 4⟩,
       ⟨.iscZpx d, .mem (.zpx d), 0xF7, 4⟩, ⟨.nopImpFA, .imp, 0xFA, 2⟩,
       ⟨.iscAby w, .mem (.aby w), 0xFB, 4 + crossExtra (.aby w) s⟩,
       ⟨.nopAbxFC w, .mem (.abx w), 0xFC, 4 + crossExtra (.abx w) s⟩,
       ⟨.iscAbx w, .mem (.abx w), 0xFF, 4 + crossExtra (.abx w) s⟩] : List QuietForm),
      Completes f.instr f.opcode f.cycles s
        { s with diag := s.diag ++ [{ kind := .illegalOpcode,
                                      pc := s.cpu.pc - BitVec.ofNat 16 (encode f.instr).length, opcode := f.opcode }] } [] ∧
      ∃ t, exec f.instr s = .next t ∧
        t.trace.map BusAccess.addr =
          (match f.form with
            | .imp => [s.cpu.pc]
            | .imm => []
            | .mem m => effectiveAddress m s :: (addressCycles .read m s).reverse)
          ++ s.trace.map BusAccess.addr

/-- Decoding an encoded instruction gives it back: Every instruction, with every operand, is well formed, and
decoding its bytes followed by any others gives the instruction and those others. (30_encoding.md R100,
30_encoding.md R103, 30_encoding.md R104, 30_encoding.md R121) -/
def Obligations.DecodeInvertsEncode : Prop :=
  ∀ (i : Instr) (rest : List Byte), i.wellFormed = true ∧ decode (encode i ++ rest) = .ok (i, rest)

/-- Every byte string has at most one reading, and only a string that ends too early has none: The opcode byte
alone selects the operation and the length of one to three bytes; encoding what was decoded gives the bytes back;
a string decodes to one instruction whose bytes it begins with, and it is rejected exactly when it ends before
them. (R100, R104) -/
def Obligations.EncodeInvertsDecode : Prop :=
  (∀ op b1 b2 : Byte,
      encode (decodeBytes op b1 b2) = [op, b1, b2].take (opcodeLength op) ∧ 1 ≤ opcodeLength op ∧
        opcodeLength op ≤ 3) ∧
    (∀ (bs rest : List Byte) (i : Instr), decode bs = .ok (i, rest) → bs = encode i ++ rest) ∧
    (∀ bs : List Byte, (∃ e, decode bs = .error e) ↔ bs = [] ∨ ∃ op tl, bs = op :: tl ∧ bs.length < opcodeLength op)

/-- A word of each family decodes to the instruction of the opcode map: Thirteen words, at least one of each
family, decode to the instruction the opcode map gives for them. (30_encoding.md R121, 30_encoding.md R122,
30_encoding.md R123) -/
def Obligations.SomeWordsDecodeByTheTable : Prop :=
  decode [0xA9, 0x80] = .ok (.ldaImm 0x80, []) ∧ decode [0xBD, 0xF0, 0x10] = .ok (.ldaAbx 0x10F0, []) ∧
    decode [0x96, 0xFF] = .ok (.stxZpy 0xFF, []) ∧ decode [0x48] = .ok (.pha, []) ∧
    decode [0x71, 0x20] = .ok (.adcIzy 0x20, []) ∧ decode [0x5E, 0x34, 0x12] = .ok (.lsrAbx 0x1234, []) ∧
    decode [0xD0, 0xFE] = .ok (.bne 0xFE, []) ∧ decode [0x6C, 0xFF, 0x10] = .ok (.jmpInd 0x10FF, []) ∧
    decode [0x20, 0x00, 0xC0] = .ok (.jsr 0xC000, []) ∧ decode [0x00, 0xFF] = .ok (.brk, [0xFF]) ∧
    decode [0xE3, 0x10] = .ok (.iscIzx 0x10, []) ∧ decode [0x9C, 0xF0, 0x20] = .ok (.shyAbx 0x20F0, []) ∧
    decode [0xB2] = .ok (.jamB2, [])

/-- A step fetches, decodes and runs one instruction: In a running machine with no reset cycles owed, no jam and
no latched interrupt, when the bytes at PC (none of them answered by a device) decode to i, a step is: the
fetches of the opcode and operand bytes (JSR's last byte and BRK's padding byte excepted, which the instruction
itself reads), exec of i, Retire unless the CPU has jammed, one paid cycle for each bus access, and the
instruction boundary. (60_exceptions.md R300, 60_exceptions.md R330, 30_encoding.md R100) -/
def Obligations.StepRunsTheDecodedInstruction : Prop :=
  ∀ (s : State) (i : Instr) (rest : List Byte),
    s.session.isRunning = true → s.owed = 0 → s.cpu.jammed = false → s.cpu.intLatch = none →
    (∀ k < 3, s.store (s.cpu.pc + BitVec.ofNat 16 k) ≠ .io) →
    decode [s.peek s.cpu.pc, s.peek (s.cpu.pc + 1), s.peek (s.cpu.pc + 2)] = .ok (i, rest) → i.wellFormed = true →
    let n := fetchedBytes (s.peek s.cpu.pc)
    let f : State := { s with
      cpu := { s.cpu with pc := s.cpu.pc + BitVec.ofNat 16 n }
      trace := ((List.range n).map fun k =>
        BusAccess.read (s.cpu.pc + BitVec.ofNat 16 k) (s.peek (s.cpu.pc + BitVec.ofNat 16 k))).reverse }
    step s =
      match exec i f with
      | .next t => .next (boundary (tickFor t.trace.length (if t.cpu.jammed then t else retire t)))
      | .fault r => .fault r
      | .refused r => .refused r

/-- No instruction and no step faults or is refused: Every instruction completes from every state and every step
of the machine gives a next state: the spec gives the CPU no access fault, no illegal-instruction exception and
no privilege violation. (20_memory.md R61, 60_exceptions.md R301, 60_exceptions.md R303) -/
def Obligations.EveryInstructionAndStepCompletes : Prop :=
  (∀ (i : Instr) (s : State), ∃ t, exec i s = .next t) ∧ ∀ s : State, ∃ t, step s = .next t

/-- The invariant holds right after reset: The machine right after reset satisfies the invariant: canonical
stores inside their ranges, the raster position in the frame, no LOAD strobe stored, no interrupt latched in a
jammed CPU, no jam under Nop, the Monitor active only in InMonitor, a released session stopped. (60_exceptions.md
R369, 10_state.md R38) -/
def Obligations.InvariantHoldsAtReset : Prop :=
  State.reset.Inv

/-- Every step keeps the invariant of the machine: From every state that satisfies the invariant, reachable or
not, a step leads to a state that satisfies it: memory stays canonical and inside its range, the raster position
inside the frame, the LOAD strobe out of the control registers, a jammed CPU without a latched interrupt, the Nop
policy without a jam, the Monitor and the lifecycle in agreement, a released session stopped. (10_state.md R34,
60_exceptions.md R332, 60_exceptions.md R333, 60_exceptions.md R352, 60_exceptions.md R380, 60_exceptions.md
R386, 46_undocumented.md R262, 46_undocumented.md R263) -/
def Obligations.EveryStepKeepsTheInvariant : Prop :=
  ∀ s t : State, s.Inv → step s = .next t → t.Inv

/-- The cycle table agrees with the bus accesses of every opcode: Under Quirk a step that fetches and runs an
instruction makes as many bus accesses, the opcode fetch included, as the table of cycle counts gives its opcode
byte, plus one when an indexed read crosses a page and plus one or two when a branch is taken. (R420, R421) -/
def Obligations.CyclesEqualBusAccesses : Prop :=
  ∀ (s : State) (i : Instr) (f : State),
    s.params.illegalPolicy = .quirk → s.cpu.jammed = false → s.cpu.intLatch = none →
    fetchInstr { s with trace := [] } = (i, f) →
    ∃ op tl t, encode i = op :: tl ∧ cpuStep s = .next t ∧ t.trace.length = tableCycles op + extraCycles i f

/-- Every memory mode: effective address, bus accesses in order, value: For every memory mode and state: the
effective address is that of the mode's rule, with the wraps inside page zero and at $FFFF; the dummy reads and
pointer reads before the operand are made at the rule's addresses in order, the dummy read at the uncorrected
address for a read only when the page is crossed and always for a write or modify; a read reads there once, a
write writes there once, a modify reads, writes the old value back and writes the new one. (R109, R110, R111,
R112, R113, R114, R115, R116, R119, R120) -/
def Obligations.AddressingModesMakeTheirAccesses : Prop :=
  ∀ (m : MemMode) (s : State) (v : Byte) (f : ByteOp),
    let ea := effectiveAddress m s
    let t := s.trace.map BusAccess.addr
    (∀ k, (resolve k m s).1.ea = ea ∧ (resolve k m s).2.cpu = s.cpu ∧
      (resolve k m s).2.trace.map BusAccess.addr = (addressCycles k m s).reverse ++ t ∧
      (resolve k m s).2 = (addressCycles k m s).foldl (fun u a => dummyRead a u) s) ∧
    (let u := (resolve .read m s).2
     readOperand (.mem m) s = ((u.busRead ea).1, (u.busRead ea).2.log (.read ea (u.busRead ea).1))) ∧
    (let u := (resolve .write m s).2
     writeOperand m v s = (u.busWrite ea v).log (.write ea v)) ∧
    (let u := (resolve .modify m s).2
     let old := (u.busRead ea).1
     let new := (f old s.cpu.p.c).1
     (modify m f s).1 = new ∧
     (modify m f s).2.trace = .write ea new :: .write ea old :: .read ea old :: u.trace ∧
     (modify m f s).2.cpu = { s.cpu with p := { s.cpu.p with c := (f old s.cpu.p.c).2 } })

/-- What a bus read can change: A bus read changes nothing but the interrupt data and output and the time-of-day
latch of the CIAs, the two collision registers, and the model's counters of draws; a read of an address that no
device answers changes nothing at all; a read of a device address other than those listed changes no state of the
machine (the counters and the settling of joystick values are the model's own, logs 7 and 12). (R68) -/
def Obligations.ReadsHaveNoOtherSideEffect : Prop :=
  ∀ (s : State) (a : Word),
    (s.busRead a).2.steady = s.steady ∧ (s.busRead a).2.trace = s.trace ∧
    (s.store a ≠ .io → (s.busRead a).2 = s) ∧
    (readHasEffect a = false → (s.busRead a).2.undrawn = s.undrawn) ∧
    ((s.busRead a).2.draws.unstable = s.draws.unstable)

/-- Taking a latched IRQ or NMI: With an interrupt latched and the CPU not jammed a step is the interrupt
sequence and Retire: seven bus accesses in the order of the rule, PC stored in the stack page high byte first,
then the status byte with bit 5 set and bit 4 clear, S three lower, I set, the latch cleared, PC the word at the
vector through the map; A, X, Y, the other flags and every other byte are unchanged. (R306) -/
def Obligations.InterruptSequenceEntersTheHandler : Prop :=
  ∀ (s : State) (k : Interrupt), s.cpu.jammed = false → s.cpu.intLatch = some k →
    let p := pushedStatus s.cpu.p false
    let vec : Word := if k = .nmi then 0xFFFA else 0xFFFE
    let w := ((s.writeRam (stackAddr s.cpu.s) (hiByte s.cpu.pc)).writeRam (stackAddr (s.cpu.s - 1))
        (loByte s.cpu.pc)).writeRam (stackAddr (s.cpu.s - 2)) p
    ∃ u, cpuStep s = .next (retire u) ∧
      u.steady = (w.withCpu { s.cpu with
        pc := wordOf (w.peek (vec + 1)) (w.peek vec)
        s := s.cpu.s - 3
        p := { s.cpu.p with i := true }
        intLatch := none }).steady ∧
      MemoryKeptBut [stackAddr s.cpu.s, stackAddr (s.cpu.s - 1), stackAddr (s.cpu.s - 2)] s u ∧
      u.trace.map BusAccess.addr = [vec + 1, vec, stackAddr (s.cpu.s - 2), stackAddr (s.cpu.s - 1),
        stackAddr s.cpu.s, s.cpu.pc, s.cpu.pc]

/-- RTI resumes what an interrupt sequence suspended: From every state whose RAM is in canonical form, the
interrupt sequence and then, with PC anywhere, RTI leave every register and flag as they were: PC at the
instruction that was about to be fetched, S and the flags restored, I among them. (60_exceptions.md R306,
60_exceptions.md R308, 45_flags_system.md R235) -/
def Obligations.RtiUndoesTheInterruptSequence : Prop :=
  ∀ (s : State) (k : Interrupt) (pc : Word), Memory.wf s.ram = true →
    let u := raiseInterrupt k s
    ∃ t, exec .rti (u.withCpu { u.cpu with pc := pc }) = .next t ∧ t.cpu = s.cpu

/-- Retire and SampleNMI: Retire examines the NMI line, remembers an edge, and latches NMI when one is pending
(and forgets it), else IRQ when the line is asserted and I = 0, else nothing; the lines are the rules' functions
of the devices and of the RESTORE key; nothing else changes. (R302, R304, R310, R311) -/
def Obligations.RetireSamplesTheInterruptLines : Prop :=
  ∀ s : State,
    let vicIrq : Bool := decide (s.vic.irqLatch &&& s.vic.irqEnable ≠ 0)
    let irq := vicIrq || s.cia1.ir
    let nmi := s.cia2.ir || s.input.restore
    let pending := s.cpu.nmiPending || (nmi && !s.cpu.nmiPrev)
    sampleNmi s = s.withCpu { s.cpu with nmiPending := pending, nmiPrev := nmi } ∧
    retire s = s.withCpu { s.cpu with
      nmiPrev := nmi
      nmiPending := false
      intLatch := if pending then some .nmi else if irq && !s.cpu.p.i then some .irq else none }

/-- Hard and soft reset: A reset of either kind clears the port and the hidden state, gives every device the
reset value of R369 (raster 0 and cycle 1, timers $FFFF, time of day 01:00:00.0, noise registers $7FFFF8, the
rest 0), makes seven reads and no write in the order of R401, leaves S three below where it began, sets I, takes
PC from the reset vector of the KERNAL ROM, leaves the machine Running with cycle 0, and keeps RAM, colour RAM,
A, X, Y and the other flags as they stand, the host's inputs, the diagnostic stream, the parameters and the
breakpoints; a hard reset begins by putting draws into A, X, Y, S, the flags and the two stores, and into nothing
else, a soft reset begins with none. The model's own choices in it, which no rule fixes: the values of those
draws, all zero, so that a hard reset leads to the registers, flags, stores, port, cycle and owed cycles of the
machine right after power-on (DESIGN CHOICE, logs 1 and 2); that the seven cycles are owed to the next turn (log
8); the phase and the divider of the time of day (log 14), the bits left to shift out (log 15), the timers'
toggle and latest underflow (log 16), the envelope's phase and the sample clock's (log 17), and that the audio
chip's counter of draws goes on (log 7). (10_state.md R38, 60_exceptions.md R369, 70_reset_and_hazards.md R400,
70_reset_and_hazards.md R401, 70_reset_and_hazards.md R402, 70_reset_and_hazards.md R403) -/
def Obligations.ResetSequenceOfTheCpu : Prop :=
  ∀ (s : State) (hard : Bool),
    let t := resetSequence hard s
    let u := if hard then powerOn s else s
    t.cpu.s = u.cpu.s - 3 ∧ t.cpu.a = u.cpu.a ∧ t.cpu.x = u.cpu.x ∧ t.cpu.y = u.cpu.y ∧
    t.cpu.p = { u.cpu.p with i := true } ∧ t.ram = u.ram ∧ t.colorRam = u.colorRam ∧
    t.cpu.jammed = false ∧ t.cpu.intLatch = none ∧ t.cpu.nmiPending = false ∧ t.cpu.nmiPrev = false ∧
    t.ddr = 0 ∧ t.pr = 0 ∧ t.bank = 0b111 ∧
    t.cpu.pc = wordOf (Config.romKernal 0x1FFD) (Config.romKernal 0x1FFC) ∧
    t.trace.map BusAccess.addr = [0xFFFD, 0xFFFC, stackAddr (u.cpu.s - 2), stackAddr (u.cpu.s - 1),
      stackAddr u.cpu.s, s.cpu.pc, s.cpu.pc] ∧
    (∀ e ∈ t.trace, ∃ a v, e = .read a v) ∧ t.owed = 7 ∧
    t.vic =
      { regs := [], raster := 0, rcycle := 1, rasterCmp := 0, irqLatch := 0, irqEnable := 0, denSeen := false,
        spriteSprite := 0, spriteBackground := 0 } ∧
    (∀ c ∈ [t.cia1, t.cia2],
      c.pra = 0 ∧ c.prb = 0 ∧ c.ddra = 0 ∧ c.ddrb = 0 ∧ c.icrData = 0 ∧ c.icrMask = 0 ∧ c.ir = false ∧ c.sdr = 0 ∧
      (∀ r ∈ [c.ta, c.tb], r.counter = 0xFFFF ∧ r.latch = 0xFFFF ∧ r.ctrl = 0 ∧
        r.underflowed = false ∧ r.toggle = false) ∧
      c.tod.clock = { hours := 0x01, minutes := 0x00, seconds := 0x00, tenths := 0x0 } ∧
      c.tod.alarm = { hours := 0x00, minutes := 0x00, seconds := 0x00, tenths := 0x0 } ∧
      c.tod.stopped = false ∧ c.tod.phase = 0 ∧ c.tod.ticks = 0 ∧ c.sdrLeft = 0) ∧
    (∀ v ∈ [t.sid.v1, t.sid.v2, t.sid.v3],
      v.freq = 0 ∧ v.pw = 0 ∧ v.control = 0 ∧ v.attackDecay = 0 ∧ v.sustainRelease = 0 ∧ v.acc = 0 ∧
      v.noise = 0x7FFFF8 ∧ v.env = 0 ∧ v.phase = .release) ∧
    t.sid.cutoff = 0 ∧ t.sid.resFilt = 0 ∧ t.sid.modeVol = 0 ∧ t.sid.samplePhase = 0 ∧
    t.steady.cia1 = Cia.afterReset.steady ∧ t.steady.cia2 = Cia.afterReset.steady ∧
    t.sid = { Sid.afterReset with draws := s.sid.draws } ∧
    t.session.lifecycle = .running ∧ t.cycle = 0 ∧
    t.input.steady = s.input.steady ∧ t.diag = s.diag ∧ t.params = s.params ∧
    t.session.breakpoints = s.session.breakpoints ∧
    u = { s with
      cpu :=
        { s.cpu with
          a := u.cpu.a, x := u.cpu.x, y := u.cpu.y, s := u.cpu.s
          p := { u.cpu.p with i := s.cpu.p.i } }
      ram := u.ram
      colorRam := u.colorRam } ∧
    (hard = true →
      t.cpu.a = 0x00 ∧ t.cpu.x = 0x00 ∧ t.cpu.y = 0x00 ∧ t.cpu.s = 0xFD ∧
      t.cpu.p = { n := false, v := false, d := false, i := true, z := false, c := false } ∧
      t.ram = [] ∧ t.colorRam = [] ∧
      t.cpu = State.reset.cpu ∧ t.ram = State.reset.ram ∧ t.colorRam = State.reset.colorRam ∧
      t.ddr = State.reset.ddr ∧ t.pr = State.reset.pr ∧ t.cycle = State.reset.cycle ∧ t.owed = State.reset.owed)

/-- The video chip's registers, interrupt latch and raster compare: $D011 and $D012 read as the raster line with
the stored bits 6 to 0 of $D011, $D019 as the interrupt output, three ones and the latch, $D01A as four ones and
the enable bits, and none of these reads changes the chip; a write of $D011 or $D012 replaces its part of the
compare value and latches a raster interrupt at once when the new value equals the current line and the old one
did not; a write of $D019 clears exactly the latch bits written as 1, which releases the output when no enabled
bit is left; a write of $D01A sets the enable bits; the collision registers clear on read and ignore writes, the
numbers above $2E read $FF and ignore writes, and every other register is plain storage whose missing bits read
as 1. In a tick the raster moves by one cycle, den_seen follows DEN in line $30 and falls at the frame, and the
raster bit of the latch is set when the new line equals the compare value and the cycle is the first of the line,
the second in line 0; nothing else of the chip changes. A CPU access to $D000 to $D3FF in the I/O region is an
access to the register of its low six address bits and changes nothing but the chip. (20_memory.md R84,
60_exceptions.md R310, 60_exceptions.md R333, 60_exceptions.md R334, 60_exceptions.md R335, 60_exceptions.md
R336, 60_exceptions.md R346) -/
def Obligations.VideoChipRegistersAndInterruptLatch : Prop :=
  ∀ (v : Vic) (n : BitVec 6) (b : Byte),
    (v.irq = decide (v.irqLatch &&& v.irqEnable ≠ 0) ∧
      (v.read 0x11).1.toNat = 128 * (v.raster.toNat / 256) + (v.reg 0x11).toNat % 128 ∧
      (v.read 0x12).1.toNat = v.raster.toNat % 256 ∧
      (v.read 0x19).1.toNat = 128 * v.irq.toNat + 112 + v.irqLatch.toNat ∧
      (v.read 0x1A).1.toNat = 240 + v.irqEnable.toNat ∧
      v.read 0x1E = (v.spriteSprite, { v with spriteSprite := 0 }) ∧
      v.read 0x1F = (v.spriteBackground, { v with spriteBackground := 0 }) ∧
      (n ≠ 0x1E → n ≠ 0x1F → (v.read n).2 = v)) ∧
    (let w := v.write 0x11 b
     w.rasterCmp.toNat = 256 * (b.toNat / 128) + v.rasterCmp.toNat % 256 ∧
      w.irqLatch = (if w.rasterCmp = v.raster ∧ v.rasterCmp ≠ v.raster then v.irqLatch ||| 1 else v.irqLatch) ∧
      (Memory.wf v.regs = true → (w.read 0x11).1.toNat = 128 * (v.raster.toNat / 256) + b.toNat % 128 ∧
        ∀ k : Nat, k ≠ 0x11 → w.reg k = v.reg k) ∧
      w = { v with regs := w.regs, rasterCmp := w.rasterCmp, irqLatch := w.irqLatch }) ∧
    (let w := v.write 0x12 b
     w.rasterCmp.toNat = 256 * (v.rasterCmp.toNat / 256) + b.toNat ∧
      w.irqLatch = (if w.rasterCmp = v.raster ∧ v.rasterCmp ≠ v.raster then v.irqLatch ||| 1 else v.irqLatch) ∧
      w = { v with rasterCmp := w.rasterCmp, irqLatch := w.irqLatch }) ∧
    (let w := v.write 0x19 b
     (∀ i : Fin 4, w.irqLatch.getLsbD i = (v.irqLatch.getLsbD i && !b.getLsbD i)) ∧
      (v.irqLatch &&& v.irqEnable &&& ~~~(b.extractLsb' 0 4) = 0 → w.irq = false) ∧
      w = { v with irqLatch := w.irqLatch }) ∧
    (v.write 0x1A b).irqEnable.toNat = b.toNat % 16 ∧
    v.write 0x1A b = { v with irqEnable := (v.write 0x1A b).irqEnable } ∧
    v.write 0x1E b = v ∧ v.write 0x1F b = v ∧
    (0x2F ≤ n.toNat → v.write n b = v ∧ v.read n = (0xFF, v)) ∧
    (n.toNat < 0x2F → n ∉ ([0x11, 0x12, 0x19, 0x1A, 0x1E, 0x1F] : List (BitVec 6)) → Memory.wf v.regs = true →
      let w := v.write n b
      (w.read n).1 =
          b ||| (if n = 0x16 then 0xC0 else if n = 0x18 then 0x01 else if 0x20 ≤ n.toNat then 0xF0 else 0x00) ∧
        (∀ m : BitVec 6, m ≠ n → (w.read m).1 = (v.read m).1) ∧ w = { v with regs := w.regs }) ∧
    (∀ std : VideoStandard,
      let u := (v.tick std).1
      let newLine : Bool := decide (std.cyclesPerLine < v.rcycle + 1)
      let newFrame : Bool := newLine && decide (v.raster + 1 = BitVec.ofNat 9 std.lines)
      u.rcycle = (if newLine then 1 else v.rcycle + 1) ∧
        u.raster = (if newFrame then 0 else if newLine then v.raster + 1 else v.raster) ∧
        (v.tick std).2 = newFrame ∧
        u.denSeen = ((v.denSeen && !newFrame) || (decide (u.raster = 0x30) && (v.read 0x11).1.getLsbD 4)) ∧
        u.irqLatch = (if u.raster = v.rasterCmp ∧ u.rcycle = (if u.raster = 0 then 2 else 1) then v.irqLatch ||| 1
          else v.irqLatch) ∧
        u = { v with rcycle := u.rcycle, raster := u.raster, denSeen := u.denSeen, irqLatch := u.irqLatch }) ∧
    (∀ (s : State) (j : Nat), j < 0x400 → s.store (BitVec.ofNat 16 (0xD000 + j)) = .io →
      let a := BitVec.ofNat 16 (0xD000 + j)
      let r := s.vic.read (BitVec.ofNat 6 j)
      s.busRead a = (r.1, { s with vic := r.2 }) ∧
        s.busWrite a b = { s with vic := s.vic.write (BitVec.ofNat 6 j) b })

/-- RAM reads back what was written; a ROM does not change: In every state whose RAM is in canonical form: for
every address that resolves to RAM under the bank configuration in force, a write and then a read give the byte
written, the read changes nothing, and every other address that no device answers reads as before; for every
address that resolves to a ROM, the byte read is the same after a write, which changes nothing at all, or the RAM
under it when ROM_WRITE_THROUGH is set; the RAM bytes under the processor port are never written. (R63, R427) -/
def Obligations.MemoryRoundTrip : Prop :=
  ∀ (s : State) (a : Word) (v : Byte), Memory.wf s.ram = true →
    (s.store a = .ram → (memRead a (memWrite a v s)).1 = v ∧ (s.busRead a).2 = s) ∧
    (s.store a = .basic ∨ s.store a = .kernal ∨ s.store a = .chargen →
      (memRead a (memWrite a v s)).1 = (memRead a s).1 ∧
      (s.params.romWriteThrough = false → s.busWrite a v = s) ∧
      (s.params.romWriteThrough = true → s.busWrite a v = s.writeRam a v)) ∧
    (∀ b : Word, s.store a = .ram → b ≠ a → s.store b ≠ .io → (s.busWrite a v).peek b = s.peek b) ∧
    (∀ k < 2, (s.busWrite a v).ram.read k = s.ram.read k)

/-- The eight bank configurations and the processor port: Each of the eight bank configurations puts RAM, a ROM
or the I/O region at the addresses of the table; addresses 0 and 1 are the processor port in all of them; the
port reads and writes as its rule says and the configuration is the low three bits of PR OR NOT DDR. (R31, R80,
R82) -/
def Obligations.BankTableAndProcessorPort : Prop :=
  (∀ a : Word,
      storeOf 0b000 a = (if a = 0 then .portDirection else if a = 1 then .portData else .ram) ∧
      storeOf 0b100 a = storeOf 0b000 a) ∧
    (∀ (b : BitVec 3) (a : Word), 2 ≤ a.toNat → (a.toNat < 0xA000 ∨ 0xC000 ≤ a.toNat ∧
      a.toNat < 0xD000) → storeOf b a = .ram) ∧
    (∀ (b : BitVec 3) (a : Word), 0xA000 ≤ a.toNat → a.toNat < 0xC000 →
      storeOf b a = if b = 0b011 ∨ b = 0b111 then .basic else .ram) ∧
    (∀ (b : BitVec 3) (a : Word), 0xD000 ≤ a.toNat → a.toNat < 0xE000 →
      storeOf b a = if b = 0b000 ∨ b = 0b100 then .ram else if 4 ≤ b.toNat then .io else .chargen) ∧
    (∀ (b : BitVec 3) (a : Word), 0xE000 ≤ a.toNat →
      storeOf b a = if b = 0b010 ∨ b = 0b011 ∨ b = 0b110 ∨ b = 0b111 then .kernal else .ram) ∧
    (∀ (s : State) (v : Byte),
      (s.busRead 0).1 = s.ddr ∧
      (s.busRead 1).1 = (s.pr &&& s.ddr) ||| (s.params.portExt.zeroExtend 8 &&& ~~~s.ddr) ∧
      s.busWrite 0 v = { s with ddr := v } ∧ s.busWrite 1 v = { s with pr := v } ∧
      s.bank.toNat = (s.pr ||| ~~~s.ddr).toNat % 8)

/-- The interrupt control register of a CIA: A write of ICR sets or clears the mask bits it names by its bit 7
and asserts the output at once when an enabled data bit is already set; an event sets its data bit and asserts
the output when it is enabled; only a read clears, and it returns the output in bit 7, two zeros and the data
bits, and clears both in the same access. (R355, R356) -/
def Obligations.InterruptControlRegister : Prop :=
  ∀ (c : Cia) (v : Byte) (bits : BitVec 5),
    (let w := c.write 0xD v
     w.icrMask = (if v.getLsbD 7 then c.icrMask ||| v.extractLsb' 0 5 else c.icrMask &&& ~~~(v.extractLsb' 0 5)) ∧
     w.ir = (c.ir || decide (c.icrData &&& w.icrMask ≠ 0)) ∧
     w = { c with icrMask := w.icrMask, ir := w.ir }) ∧
    (c.flag bits = { c with icrData := c.icrData ||| bits,
                            ir := c.ir || decide ((c.icrData ||| bits) &&& c.icrMask ≠ 0) }) ∧
    (∀ extA extB : Byte, (c.read 0xD extA extB).1.toNat = 128 * c.ir.toNat + c.icrData.toNat ∧
      (c.read 0xD extA extB).2 = { c with icrData := 0, ir := false })

/-- The period and the reload of a CIA timer: A running timer whose input counts in every tick falls by one a
tick and, N + 1 ticks after it held N, underflows: it is reloaded from the latch and, in one-shot mode, stops; a
timer that is stopped or whose input does not count keeps its value and does not underflow. (60_exceptions.md
R353) -/
def Obligations.TimersUnderflowEveryNPlusOneTicks : Prop :=
  ∀ t : Timer, t.running = true →
    let N := t.counter.toNat
    (∀ k, k ≤ N → ((Nat.repeat (Timer.tick true) k t).counter.toNat = N - k ∧
      (0 < k → (Nat.repeat (Timer.tick true) k t).underflowed = false) ∧
      (Nat.repeat (Timer.tick true) k t).running = true)) ∧
    (let u := Nat.repeat (Timer.tick true) (N + 1) t
     u.counter = t.latch ∧ u.latch = t.latch ∧ u.underflowed = true ∧ u.running = !t.ctrl.getLsbD 3) ∧
    (∀ u : Timer, u.running = false → (u.tick true).counter = u.counter ∧ (u.tick true).underflowed = false) ∧
    (t.tick false).counter = t.counter ∧ (t.tick false).underflowed = false

/-- The raster position and the frame-ready event: From every position in the frame and for every number of
ticks, the raster position advances by one unit a tick modulo the frame, and there is exactly one frame-ready
event for each wrap. (R347) -/
def Obligations.RasterWrapsOncePerFrame : Prop :=
  ∀ (std : VideoStandard) (v : Vic) (n : Nat),
    v.raster.toNat < std.lines → 1 ≤ v.rcycle → v.rcycle ≤ std.cyclesPerLine →
    let frame := std.lines * std.cyclesPerLine
    let r := Vic.run std n v
    r.1.position std = (v.position std + n) % frame ∧ r.2 = (v.position std + n) / frame ∧
    r.1.raster.toNat < std.lines ∧ 1 ≤ r.1.rcycle ∧ r.1.rcycle ≤ std.cyclesPerLine

/-- Paying for one CPU cycle on PAL: From every state of a PAL machine the scheduler pays for one CPU cycle by
ticking through the stolen cycles, at most forty of them, and one more tick that is not stolen; the bound in the
model's loop is never reached (log 19), and the cycle counter counts every tick. (60_exceptions.md R330,
60_exceptions.md R340, 60_exceptions.md R341) -/
def Obligations.StolenTicksPayForNoCycle : Prop :=
  ∀ s : State, s.params.videoStandard = .pal →
    ∃ k, k ≤ 40 ∧ (∀ j < k, (Nat.repeat tickCycle j s).steal = true) ∧ (Nat.repeat tickCycle k s).steal = false ∧
      payCycle stealBound s = Nat.repeat tickCycle (k + 1) s ∧ (payCycle stealBound s).cycle = s.cycle + (k + 1)

/-- Warp invariance: For any number of steps without host commands, the machine in Running and in WarpRunning go
through the same states, all of CPU, memory, devices, events and breakpoints, but for the lifecycle state itself
and the mode a later continue resumes. (70_reset_and_hazards.md R425) -/
def Obligations.WarpChangesNothingButTheLifecycle : Prop :=
  ∀ (n : Nat) (s : State), s.session.lifecycle = .running → s.session.queue = [] →
    ∃ t u, Host.Core.run Sys2Proof.core n s = .next t ∧
      Host.Core.run Sys2Proof.core n (s.setLifecycle .warpRunning) = .next u ∧ t.eraseWarp = u.eraseWarp

/-- A Monitor line suspends the machine at the boundary and shows live memory: When a memory dump is queued in a
running machine, the step completes its instruction and its ticks as without it, the machine is then in the
Monitor awaiting a command, the dump shows the bytes memory holds at that moment, and nothing of the machine is
changed by the reading. (60_exceptions.md R381, 60_exceptions.md R384, 20_memory.md R77) -/
def Obligations.MonitorDumpShowsLiveMemory : Prop :=
  ∀ (s : State) (a : Word) (n : Nat),
    s.session.lifecycle = .running → s.session.queue = [.monitor (.memoryDump a n)] →
    s.session.monitor = .inactive → s.session.released = false → s.session.breakpoints = [] →
    ∃ t u, step { s with session := { s.session with queue := [] } } = .next u ∧ step s = .next t ∧
      t.session.lifecycle = .inMonitor ∧ t.session.monitor = .awaitingCommand ∧ t.session.queue = [] ∧
      t.session.events =
        .memoryDump a ((List.range n).map fun k => t.peek (a + BitVec.ofNat 16 k)) :: u.session.events ∧
      { t with session := u.session } = u

/-- Colour RAM and open bus: In every state whose colour RAM is in canonical form: a write to colour RAM stores
the low nibble, which is what a read of the same address gives in its low bits, the upper ones being open bus; an
address of the expansion region ignores writes and reads as open bus. Open bus is a fresh draw at every read, of
which nothing is known: each of these reads uses the draw of the next number and advances the counter (log 5).
(20_memory.md R70, 20_memory.md R84) -/
def Obligations.ColourRamKeepsTheLowNibble : Prop :=
  ∀ (s : State) (a : Word) (v : Byte), Memory.wf s.colorRam = true → s.store a = .io →
    (ioDevice a = .color →
      (s.busWrite a v).colorRam.read (a.toNat % 1024) = v.extractLsb' 0 4 ∧
      ((s.busWrite a v).busRead a).1.extractLsb' 0 4 = v.extractLsb' 0 4 ∧
      (s.busRead a).1.extractLsb' 4 4 = (Config.openBus s.draws.openBus).extractLsb' 4 4 ∧
      (s.busRead a).2.draws.openBus = s.draws.openBus + 1) ∧
    (ioDevice a = .expansion → s.busWrite a v = s ∧ (s.busRead a).1 = Config.openBus s.draws.openBus ∧
      (s.busRead a).2.draws.openBus = s.draws.openBus + 1)

/-- Reading and writing the time of day: Reading the hours of a clock that is not frozen freezes what the other
three registers read as for any number of cycles until the tenths are read; writing the hours stops the clock for
any number of cycles and stores bits 7 and 4 to 0 of the byte, the bits R350 gives that register (that bits a
register does not have are dropped is the model's choice, log 14), and writing the tenths starts it.
(60_exceptions.md R350, 60_exceptions.md R358) -/
def Obligations.TimeOfDayFreezesAndStops : Prop :=
  ∀ (t : Tod) (v : Byte) (std : VideoStandard) (todin : Bool),
    (t.latched = false → (t.read 3).1 = t.clock.hours ∧
      (∀ k : Nat, let u := Nat.repeat (Tod.tick std todin) k (t.read 3).2
        (u.read 1).1 = t.clock.seconds ∧ (u.read 2).1 = t.clock.minutes ∧ (u.read 0).1 = t.clock.tenths ∧
        (u.read 0).2.latched = false)) ∧
    (∀ k : Nat, (Nat.repeat (Tod.tick std todin) k (t.writeClock 3 v)).clock = (t.writeClock 3 v).clock) ∧
    (t.writeClock 3 v).clock.hours = v &&& 0x9F ∧ (t.writeClock 0 v).stopped = false

/-- Breakpoints and watches: At the boundary the machine enters the Monitor exactly when an enabled execute
breakpoint stands at PC and the next step is a fetch, or an access of the step just made, dummy accesses
included, touched the address of an enabled read or write watch; nothing of the machine changes.
(60_exceptions.md R381, 60_exceptions.md R382) -/
def Obligations.BreakpointsSuspendAtTheBoundary : Prop :=
  ∀ s : State,
    let hit : Breakpoint → Prop := fun b => b.enabled = true ∧
      ((b.kind = .execute ∧ b.addr = s.cpu.pc ∧ s.cpu.jammed = false ∧ s.cpu.intLatch = none) ∨
       (b.kind = .read ∧ ∃ v, BusAccess.read b.addr v ∈ s.trace) ∨ (b.kind = .write ∧
         ∃ v, BusAccess.write b.addr v ∈ s.trace))
    ((∃ b ∈ s.session.breakpoints, hit b) →
      (checkBreakpoints s).session.lifecycle = .inMonitor ∧ (checkBreakpoints s).session.monitor = .awaitingCommand ∧
      { checkBreakpoints s with session := s.session } = s) ∧
    ((¬∃ b ∈ s.session.breakpoints, hit b) → checkBreakpoints s = s)

/-- The phase accumulators, the noise registers and the registers of the audio chip: In a tick each voice's
accumulator advances by its frequency modulo 2^24, is held at 0 by TEST, and without the SYNC bit by nothing
else; the noise register is clocked when bit 19 rises, with bit 22 XOR bit 17 as feedback (for a voice with the
SYNC bit the accumulator after hard sync clocks it: the order within a tick is the model's choice, log 17); the
envelope counter moves by at most one (the model's choice, log 17: the rates are not given); registers $00 to $18
and above $1C drive no read, the paddles read $FF and ENV3 is voice 3's envelope; no CPU read changes the chip.
(60_exceptions.md R361, 60_exceptions.md R362, 60_exceptions.md R363) -/
def Obligations.AudioVoicesAdvanceEachTick : Prop :=
  ∀ (c : Sid) (i : Fin 3) (n : BitVec 5),
    let v := c.voice i
    let w := c.tickVoices.voice i
    (v.control.getLsbD 1 = false →
      w.acc = (if v.control.getLsbD 3 then 0 else v.acc + BitVec.ofNat 24 v.freq.toNat)) ∧
    (v.control.getLsbD 3 = true → w.acc = 0) ∧
    w.noise = (if w.acc.getLsbD 19 && !v.acc.getLsbD 19 then
        BitVec.ofNat 23 (2 * v.noise.toNat) ||| BitVec.ofNat 23 ((v.noise.getLsbD 22) ^^ (v.noise.getLsbD 17)).toNat
      else v.noise) ∧
    (w.env = v.env ∨ w.env = v.env + 1 ∨ w.env = v.env - 1) ∧
    (w.freq = v.freq ∧ w.pw = v.pw ∧ w.control = v.control) ∧
    (∀ draw : Nat, (n.toNat < 0x19 ∨ 0x1D ≤ n.toNat → c.read n draw = none) ∧
      c.read 0x19 draw = some 0xFF ∧ c.read 0x1A draw = some 0xFF ∧ c.read 0x1C draw = some c.v3.env) ∧
    ∀ (s : State) (a : Word), (s.busRead a).2.sid = s.sid

/-- The ports of the CIAs: joysticks, keys and the serial bus: With no key pressed and steady joysticks, ports A
and B of CIA1 read as the output latch where the direction is output and 1 where it is input, with the closed
switches of joystick ports 2 and 1 pulling low; one pressed key pulls its column low when its row is driven low;
with no drive attached the two serial inputs of CIA2 read low exactly when the machine itself pulls CLK or DATA.
Two readings are the model's own: that a row is driven by port A's own latch and direction, without the pins a
joystick pulls low (log 13), and that a joystick whose value has not changed since the latest read reads as that
value (log 12). (60_exceptions.md R351, 60_exceptions.md R354, 60_exceptions.md R360, 60_exceptions.md R365,
60_exceptions.md R366) -/
def Obligations.CiaPortsSeeThePins : Prop :=
  ∀ s : State, s.store 0xDC00 = .io → s.input.joy1.earlier = [] → s.input.joy2.earlier = [] → s.input.keys = [] →
    s.cia1.ta.ctrl.getLsbD 1 = false → s.cia1.tb.ctrl.getLsbD 1 = false →
    (s.busRead 0xDC00).1 = ((s.cia1.pra &&& s.cia1.ddra) ||| ~~~s.cia1.ddra) &&& ~~~(s.input.joy2.now.zeroExtend 8) ∧
    (s.busRead 0xDC01).1 = ((s.cia1.prb &&& s.cia1.ddrb) ||| ~~~s.cia1.ddrb) &&& ~~~(s.input.joy1.now.zeroExtend 8) ∧
    (∀ r c : Fin 8, ({ s with input := { s.input with keys := [(r, c)] } }.busRead 0xDC01).1 =
      (s.busRead 0xDC01).1 &&&
        (if ((s.cia1.pra &&& s.cia1.ddra) ||| ~~~s.cia1.ddra).getLsbD r then 0xFF else ~~~(1#8 <<< c.val))) ∧
    (s.input.drives = [] →
      (s.busRead 0xDD00).1 = ((s.cia2.pra &&& s.cia2.ddra) ||| ~~~s.cia2.ddra) &&&
        ~~~(BitVec.ofNat 8 (64 * ((s.cia2.pra &&& s.cia2.ddra).getLsbD 4).toNat) |||
            BitVec.ofNat 8 (128 * ((s.cia2.pra &&& s.cia2.ddra).getLsbD 5).toNat)))
end

