-- ==== Sys2Proof/Laws/Memory.lean ====
section
/-! SUPPORT. The laws of a store: read after write, and the canonical form that every write keeps. -/

namespace Sys2Proof.Machine

variable {w : Nat}

theorem Memory.read_cons (a k : Nat) (v : BitVec w) (m : Memory w) (h : k ≠ a) :
    Memory.read (Memory.cons a v m) k = Memory.read m k := by
  unfold Memory.cons
  split <;> simp [Memory.read, Ne.symm h]

/-- A write leaves every other cell alone, in canonical form or not. -/
theorem Memory.read_write_other (m : Memory w) (a k : Nat) (v : BitVec w) (h : k ≠ a) :
    Memory.read (Memory.write m a v) k = Memory.read m k := by
  induction m with
  | nil => simp [Memory.write, Memory.read_cons a k v [] h]
  | cons c rest ih =>
    obtain ⟨b, u⟩ := c
    simp only [Memory.write]
    split
    · exact Memory.read_cons a k v _ h
    · split
      · rename_i hab
        rw [Memory.read_cons a k v rest h]
        simp [Memory.read, show b ≠ k by omega]
      · simp [Memory.read, ih]

theorem Memory.risingFrom_mono {lo lo' : Nat} (m : Memory w) (h : lo' ≤ lo)
    (hm : Memory.risingFrom lo m = true) : Memory.risingFrom lo' m = true := by
  cases m with
  | nil => rfl
  | cons c rest =>
    simp only [Memory.risingFrom, Bool.and_eq_true, decide_eq_true_eq] at hm ⊢
    exact ⟨by omega, hm.2⟩

/-- Every address below the first of a rising list reads as zero. -/
theorem Memory.read_below (m : Memory w) (lo a : Nat) (h : a < lo) (hm : Memory.risingFrom lo m = true) :
    Memory.read m a = 0 := by
  induction m generalizing lo with
  | nil => rfl
  | cons c rest ih =>
    obtain ⟨b, u⟩ := c
    simp only [Memory.risingFrom, Bool.and_eq_true, decide_eq_true_eq] at hm
    simp only [Memory.read, if_neg (show b ≠ a by omega)]
    exact ih (b + 1) (by omega) hm.2

theorem Memory.read_write_same_from (m : Memory w) (lo a : Nat) (v : BitVec w)
    (hm : Memory.risingFrom lo m = true) : Memory.read (Memory.write m a v) a = v := by
  induction m generalizing lo with
  | nil =>
    by_cases hv : v = 0
    · simp [Memory.write, Memory.cons, hv, Memory.read]
    · rw [Memory.write, Memory.cons, if_neg hv]; simp [Memory.read]
  | cons c rest ih =>
    obtain ⟨b, u⟩ := c
    simp only [Memory.risingFrom, Bool.and_eq_true, decide_eq_true_eq] at hm
    simp only [Memory.write]
    split
    · by_cases hv : v = 0
      · simp only [Memory.cons, hv, if_true]
        refine Memory.read_below _ b a (by assumption) ?_
        simp [Memory.risingFrom, hm.2]
      · rw [Memory.cons, if_neg hv]; simp [Memory.read]
    · split
      · subst_vars
        by_cases hv : v = 0
        · simp only [Memory.cons, hv, if_true]
          exact Memory.read_below rest (_ + 1) _ (Nat.lt_succ_self _) hm.2
        · rw [Memory.cons, if_neg hv]; simp [Memory.read]
      · simp only [Memory.read, if_neg (show b ≠ a by omega)]
        exact ih (b + 1) hm.2

/-- A canonical store reads back what was written. -/
theorem Memory.read_write_same (m : Memory w) (a : Nat) (v : BitVec w) (hm : Memory.wf m = true) :
    Memory.read (Memory.write m a v) a = v :=
  Memory.read_write_same_from m 0 a v (by simp only [Memory.wf, Bool.and_eq_true] at hm; exact hm.1)

theorem Memory.risingFrom_cons (m : Memory w) (lo a : Nat) (v : BitVec w) (h : lo ≤ a)
    (hm : Memory.risingFrom (a + 1) m = true) : Memory.risingFrom lo (Memory.cons a v m) = true := by
  unfold Memory.cons
  split
  · exact Memory.risingFrom_mono m (by omega) hm
  · simp [Memory.risingFrom, h, hm]

theorem Memory.risingFrom_write (m : Memory w) (lo a : Nat) (v : BitVec w) (h : lo ≤ a)
    (hm : Memory.risingFrom lo m = true) : Memory.risingFrom lo (Memory.write m a v) = true := by
  induction m generalizing lo with
  | nil => exact Memory.risingFrom_cons [] lo a v h rfl
  | cons c rest ih =>
    obtain ⟨b, u⟩ := c
    simp only [Memory.risingFrom, Bool.and_eq_true, decide_eq_true_eq] at hm
    simp only [Memory.write]
    split
    · refine Memory.risingFrom_cons _ lo a v h ?_
      simp only [Memory.risingFrom, Bool.and_eq_true, decide_eq_true_eq]
      exact ⟨by omega, hm.2⟩
    · split
      · subst_vars
        exact Memory.risingFrom_cons rest lo _ v h hm.2
      · simp only [Memory.risingFrom, Bool.and_eq_true, decide_eq_true_eq]
        exact ⟨hm.1, ih (b + 1) (by omega) hm.2⟩

theorem Memory.nonzero_cons (m : Memory w) (a : Nat) (v : BitVec w) (hm : m.all (fun c => c.2 != 0) = true) :
    (Memory.cons a v m).all (fun c => c.2 != 0) = true := by
  unfold Memory.cons
  split
  · exact hm
  · rename_i hv
    rw [List.all_cons, hm, Bool.and_true]
    simpa using hv

theorem Memory.nonzero_write (m : Memory w) (a : Nat) (v : BitVec w) (hm : m.all (fun c => c.2 != 0) = true) :
    (Memory.write m a v).all (fun c => c.2 != 0) = true := by
  induction m with
  | nil => exact Memory.nonzero_cons [] a v rfl
  | cons c rest ih =>
    obtain ⟨b, u⟩ := c
    have hr : rest.all (fun c => c.2 != 0) = true := by
      rw [List.all_cons, Bool.and_eq_true] at hm; exact hm.2
    simp only [Memory.write]
    split
    · exact Memory.nonzero_cons _ a v hm
    · split
      · exact Memory.nonzero_cons rest a v hr
      · have hu : (u != 0) = true := by rw [List.all_cons, Bool.and_eq_true] at hm; exact hm.1
        simp only [List.all_cons, hu, Bool.true_and]
        exact ih hr

/-- A write keeps the canonical form. -/
theorem Memory.wf_write (m : Memory w) (a : Nat) (v : BitVec w) (hm : Memory.wf m = true) :
    Memory.wf (Memory.write m a v) = true := by
  simp only [Memory.wf, Bool.and_eq_true] at hm ⊢
  exact ⟨Memory.risingFrom_write m 0 a v (Nat.zero_le a) hm.1, Memory.nonzero_write m a v hm.2⟩

/-- The addresses after a write are those before it and the one written. -/
theorem Memory.mem_write (m : Memory w) (a : Nat) (v : BitVec w) (c : Nat × BitVec w)
    (h : c ∈ Memory.write m a v) : c ∈ m ∨ c.1 = a := by
  induction m with
  | nil =>
    simp only [Memory.write, Memory.cons] at h
    split at h <;> simp_all
  | cons d rest ih =>
    obtain ⟨b, u⟩ := d
    simp only [Memory.write, Memory.cons] at h
    split at h
    · split at h
      · exact .inl h
      · rcases List.mem_cons.1 h with rfl | h
        · exact .inr rfl
        · exact .inl h
    · split at h
      · split at h
        · exact .inl (List.mem_cons_of_mem _ h)
        · rcases List.mem_cons.1 h with rfl | h
          · exact .inr rfl
          · exact .inl (List.mem_cons_of_mem _ h)
      · rcases List.mem_cons.1 h with rfl | h
        · exact .inl List.mem_cons_self
        · rcases ih h with h | h
          · exact .inl (List.mem_cons_of_mem _ h)
          · exact .inr h

end Sys2Proof.Machine
end

