-- ==== Sys2Proof/Laws/State.lean ====
section
/-! SUPPORT. One lemma per field for each update of the state, so that no proof unfolds a record update. -/

namespace Sys2Proof.Machine

/-! ## `State.setA` -/

@[simp] theorem State.setA_cpu_a (v : Byte) (s : State) : (s.setA v).cpu.a = v := rfl
@[simp] theorem State.setA_cpu_x (v : Byte) (s : State) : (s.setA v).cpu.x = s.cpu.x := rfl
@[simp] theorem State.setA_cpu_y (v : Byte) (s : State) : (s.setA v).cpu.y = s.cpu.y := rfl
@[simp] theorem State.setA_cpu_s (v : Byte) (s : State) : (s.setA v).cpu.s = s.cpu.s := rfl
@[simp] theorem State.setA_cpu_pc (v : Byte) (s : State) : (s.setA v).cpu.pc = s.cpu.pc := rfl
@[simp] theorem State.setA_cpu_p (v : Byte) (s : State) : (s.setA v).cpu.p = s.cpu.p := rfl
@[simp] theorem State.setA_cpu_nmiPrev (v : Byte) (s : State) : (s.setA v).cpu.nmiPrev = s.cpu.nmiPrev := rfl
@[simp] theorem State.setA_cpu_nmiPending (v : Byte) (s : State) : (s.setA v).cpu.nmiPending = s.cpu.nmiPending := rfl
@[simp] theorem State.setA_cpu_intLatch (v : Byte) (s : State) : (s.setA v).cpu.intLatch = s.cpu.intLatch := rfl
@[simp] theorem State.setA_cpu_jammed (v : Byte) (s : State) : (s.setA v).cpu.jammed = s.cpu.jammed := rfl
@[simp] theorem State.setA_ddr (v : Byte) (s : State) : (s.setA v).ddr = s.ddr := rfl
@[simp] theorem State.setA_pr (v : Byte) (s : State) : (s.setA v).pr = s.pr := rfl
@[simp] theorem State.setA_ram (v : Byte) (s : State) : (s.setA v).ram = s.ram := rfl
@[simp] theorem State.setA_colorRam (v : Byte) (s : State) : (s.setA v).colorRam = s.colorRam := rfl
@[simp] theorem State.setA_vic (v : Byte) (s : State) : (s.setA v).vic = s.vic := rfl
@[simp] theorem State.setA_cia1 (v : Byte) (s : State) : (s.setA v).cia1 = s.cia1 := rfl
@[simp] theorem State.setA_cia2 (v : Byte) (s : State) : (s.setA v).cia2 = s.cia2 := rfl
@[simp] theorem State.setA_sid (v : Byte) (s : State) : (s.setA v).sid = s.sid := rfl
@[simp] theorem State.setA_input (v : Byte) (s : State) : (s.setA v).input = s.input := rfl
@[simp] theorem State.setA_session (v : Byte) (s : State) : (s.setA v).session = s.session := rfl
@[simp] theorem State.setA_cycle (v : Byte) (s : State) : (s.setA v).cycle = s.cycle := rfl
@[simp] theorem State.setA_diag (v : Byte) (s : State) : (s.setA v).diag = s.diag := rfl
@[simp] theorem State.setA_params (v : Byte) (s : State) : (s.setA v).params = s.params := rfl
@[simp] theorem State.setA_trace (v : Byte) (s : State) : (s.setA v).trace = s.trace := rfl
@[simp] theorem State.setA_owed (v : Byte) (s : State) : (s.setA v).owed = s.owed := rfl
@[simp] theorem State.setA_draws (v : Byte) (s : State) : (s.setA v).draws = s.draws := rfl

/-! ## `State.setX` -/

@[simp] theorem State.setX_cpu_a (v : Byte) (s : State) : (s.setX v).cpu.a = s.cpu.a := rfl
@[simp] theorem State.setX_cpu_x (v : Byte) (s : State) : (s.setX v).cpu.x = v := rfl
@[simp] theorem State.setX_cpu_y (v : Byte) (s : State) : (s.setX v).cpu.y = s.cpu.y := rfl
@[simp] theorem State.setX_cpu_s (v : Byte) (s : State) : (s.setX v).cpu.s = s.cpu.s := rfl
@[simp] theorem State.setX_cpu_pc (v : Byte) (s : State) : (s.setX v).cpu.pc = s.cpu.pc := rfl
@[simp] theorem State.setX_cpu_p (v : Byte) (s : State) : (s.setX v).cpu.p = s.cpu.p := rfl
@[simp] theorem State.setX_cpu_nmiPrev (v : Byte) (s : State) : (s.setX v).cpu.nmiPrev = s.cpu.nmiPrev := rfl
@[simp] theorem State.setX_cpu_nmiPending (v : Byte) (s : State) : (s.setX v).cpu.nmiPending = s.cpu.nmiPending := rfl
@[simp] theorem State.setX_cpu_intLatch (v : Byte) (s : State) : (s.setX v).cpu.intLatch = s.cpu.intLatch := rfl
@[simp] theorem State.setX_cpu_jammed (v : Byte) (s : State) : (s.setX v).cpu.jammed = s.cpu.jammed := rfl
@[simp] theorem State.setX_ddr (v : Byte) (s : State) : (s.setX v).ddr = s.ddr := rfl
@[simp] theorem State.setX_pr (v : Byte) (s : State) : (s.setX v).pr = s.pr := rfl
@[simp] theorem State.setX_ram (v : Byte) (s : State) : (s.setX v).ram = s.ram := rfl
@[simp] theorem State.setX_colorRam (v : Byte) (s : State) : (s.setX v).colorRam = s.colorRam := rfl
@[simp] theorem State.setX_vic (v : Byte) (s : State) : (s.setX v).vic = s.vic := rfl
@[simp] theorem State.setX_cia1 (v : Byte) (s : State) : (s.setX v).cia1 = s.cia1 := rfl
@[simp] theorem State.setX_cia2 (v : Byte) (s : State) : (s.setX v).cia2 = s.cia2 := rfl
@[simp] theorem State.setX_sid (v : Byte) (s : State) : (s.setX v).sid = s.sid := rfl
@[simp] theorem State.setX_input (v : Byte) (s : State) : (s.setX v).input = s.input := rfl
@[simp] theorem State.setX_session (v : Byte) (s : State) : (s.setX v).session = s.session := rfl
@[simp] theorem State.setX_cycle (v : Byte) (s : State) : (s.setX v).cycle = s.cycle := rfl
@[simp] theorem State.setX_diag (v : Byte) (s : State) : (s.setX v).diag = s.diag := rfl
@[simp] theorem State.setX_params (v : Byte) (s : State) : (s.setX v).params = s.params := rfl
@[simp] theorem State.setX_trace (v : Byte) (s : State) : (s.setX v).trace = s.trace := rfl
@[simp] theorem State.setX_owed (v : Byte) (s : State) : (s.setX v).owed = s.owed := rfl
@[simp] theorem State.setX_draws (v : Byte) (s : State) : (s.setX v).draws = s.draws := rfl

/-! ## `State.setY` -/

@[simp] theorem State.setY_cpu_a (v : Byte) (s : State) : (s.setY v).cpu.a = s.cpu.a := rfl
@[simp] theorem State.setY_cpu_x (v : Byte) (s : State) : (s.setY v).cpu.x = s.cpu.x := rfl
@[simp] theorem State.setY_cpu_y (v : Byte) (s : State) : (s.setY v).cpu.y = v := rfl
@[simp] theorem State.setY_cpu_s (v : Byte) (s : State) : (s.setY v).cpu.s = s.cpu.s := rfl
@[simp] theorem State.setY_cpu_pc (v : Byte) (s : State) : (s.setY v).cpu.pc = s.cpu.pc := rfl
@[simp] theorem State.setY_cpu_p (v : Byte) (s : State) : (s.setY v).cpu.p = s.cpu.p := rfl
@[simp] theorem State.setY_cpu_nmiPrev (v : Byte) (s : State) : (s.setY v).cpu.nmiPrev = s.cpu.nmiPrev := rfl
@[simp] theorem State.setY_cpu_nmiPending (v : Byte) (s : State) : (s.setY v).cpu.nmiPending = s.cpu.nmiPending := rfl
@[simp] theorem State.setY_cpu_intLatch (v : Byte) (s : State) : (s.setY v).cpu.intLatch = s.cpu.intLatch := rfl
@[simp] theorem State.setY_cpu_jammed (v : Byte) (s : State) : (s.setY v).cpu.jammed = s.cpu.jammed := rfl
@[simp] theorem State.setY_ddr (v : Byte) (s : State) : (s.setY v).ddr = s.ddr := rfl
@[simp] theorem State.setY_pr (v : Byte) (s : State) : (s.setY v).pr = s.pr := rfl
@[simp] theorem State.setY_ram (v : Byte) (s : State) : (s.setY v).ram = s.ram := rfl
@[simp] theorem State.setY_colorRam (v : Byte) (s : State) : (s.setY v).colorRam = s.colorRam := rfl
@[simp] theorem State.setY_vic (v : Byte) (s : State) : (s.setY v).vic = s.vic := rfl
@[simp] theorem State.setY_cia1 (v : Byte) (s : State) : (s.setY v).cia1 = s.cia1 := rfl
@[simp] theorem State.setY_cia2 (v : Byte) (s : State) : (s.setY v).cia2 = s.cia2 := rfl
@[simp] theorem State.setY_sid (v : Byte) (s : State) : (s.setY v).sid = s.sid := rfl
@[simp] theorem State.setY_input (v : Byte) (s : State) : (s.setY v).input = s.input := rfl
@[simp] theorem State.setY_session (v : Byte) (s : State) : (s.setY v).session = s.session := rfl
@[simp] theorem State.setY_cycle (v : Byte) (s : State) : (s.setY v).cycle = s.cycle := rfl
@[simp] theorem State.setY_diag (v : Byte) (s : State) : (s.setY v).diag = s.diag := rfl
@[simp] theorem State.setY_params (v : Byte) (s : State) : (s.setY v).params = s.params := rfl
@[simp] theorem State.setY_trace (v : Byte) (s : State) : (s.setY v).trace = s.trace := rfl
@[simp] theorem State.setY_owed (v : Byte) (s : State) : (s.setY v).owed = s.owed := rfl
@[simp] theorem State.setY_draws (v : Byte) (s : State) : (s.setY v).draws = s.draws := rfl

/-! ## `State.setS` -/

@[simp] theorem State.setS_cpu_a (v : Byte) (s : State) : (s.setS v).cpu.a = s.cpu.a := rfl
@[simp] theorem State.setS_cpu_x (v : Byte) (s : State) : (s.setS v).cpu.x = s.cpu.x := rfl
@[simp] theorem State.setS_cpu_y (v : Byte) (s : State) : (s.setS v).cpu.y = s.cpu.y := rfl
@[simp] theorem State.setS_cpu_s (v : Byte) (s : State) : (s.setS v).cpu.s = v := rfl
@[simp] theorem State.setS_cpu_pc (v : Byte) (s : State) : (s.setS v).cpu.pc = s.cpu.pc := rfl
@[simp] theorem State.setS_cpu_p (v : Byte) (s : State) : (s.setS v).cpu.p = s.cpu.p := rfl
@[simp] theorem State.setS_cpu_nmiPrev (v : Byte) (s : State) : (s.setS v).cpu.nmiPrev = s.cpu.nmiPrev := rfl
@[simp] theorem State.setS_cpu_nmiPending (v : Byte) (s : State) : (s.setS v).cpu.nmiPending = s.cpu.nmiPending := rfl
@[simp] theorem State.setS_cpu_intLatch (v : Byte) (s : State) : (s.setS v).cpu.intLatch = s.cpu.intLatch := rfl
@[simp] theorem State.setS_cpu_jammed (v : Byte) (s : State) : (s.setS v).cpu.jammed = s.cpu.jammed := rfl
@[simp] theorem State.setS_ddr (v : Byte) (s : State) : (s.setS v).ddr = s.ddr := rfl
@[simp] theorem State.setS_pr (v : Byte) (s : State) : (s.setS v).pr = s.pr := rfl
@[simp] theorem State.setS_ram (v : Byte) (s : State) : (s.setS v).ram = s.ram := rfl
@[simp] theorem State.setS_colorRam (v : Byte) (s : State) : (s.setS v).colorRam = s.colorRam := rfl
@[simp] theorem State.setS_vic (v : Byte) (s : State) : (s.setS v).vic = s.vic := rfl
@[simp] theorem State.setS_cia1 (v : Byte) (s : State) : (s.setS v).cia1 = s.cia1 := rfl
@[simp] theorem State.setS_cia2 (v : Byte) (s : State) : (s.setS v).cia2 = s.cia2 := rfl
@[simp] theorem State.setS_sid (v : Byte) (s : State) : (s.setS v).sid = s.sid := rfl
@[simp] theorem State.setS_input (v : Byte) (s : State) : (s.setS v).input = s.input := rfl
@[simp] theorem State.setS_session (v : Byte) (s : State) : (s.setS v).session = s.session := rfl
@[simp] theorem State.setS_cycle (v : Byte) (s : State) : (s.setS v).cycle = s.cycle := rfl
@[simp] theorem State.setS_diag (v : Byte) (s : State) : (s.setS v).diag = s.diag := rfl
@[simp] theorem State.setS_params (v : Byte) (s : State) : (s.setS v).params = s.params := rfl
@[simp] theorem State.setS_trace (v : Byte) (s : State) : (s.setS v).trace = s.trace := rfl
@[simp] theorem State.setS_owed (v : Byte) (s : State) : (s.setS v).owed = s.owed := rfl
@[simp] theorem State.setS_draws (v : Byte) (s : State) : (s.setS v).draws = s.draws := rfl

/-! ## `State.setPc` -/

@[simp] theorem State.setPc_cpu_a (v : Word) (s : State) : (s.setPc v).cpu.a = s.cpu.a := rfl
@[simp] theorem State.setPc_cpu_x (v : Word) (s : State) : (s.setPc v).cpu.x = s.cpu.x := rfl
@[simp] theorem State.setPc_cpu_y (v : Word) (s : State) : (s.setPc v).cpu.y = s.cpu.y := rfl
@[simp] theorem State.setPc_cpu_s (v : Word) (s : State) : (s.setPc v).cpu.s = s.cpu.s := rfl
@[simp] theorem State.setPc_cpu_pc (v : Word) (s : State) : (s.setPc v).cpu.pc = v := rfl
@[simp] theorem State.setPc_cpu_p (v : Word) (s : State) : (s.setPc v).cpu.p = s.cpu.p := rfl
@[simp] theorem State.setPc_cpu_nmiPrev (v : Word) (s : State) : (s.setPc v).cpu.nmiPrev = s.cpu.nmiPrev := rfl
@[simp] theorem State.setPc_cpu_nmiPending (v : Word) (s : State) :
    (s.setPc v).cpu.nmiPending = s.cpu.nmiPending := rfl
@[simp] theorem State.setPc_cpu_intLatch (v : Word) (s : State) : (s.setPc v).cpu.intLatch = s.cpu.intLatch := rfl
@[simp] theorem State.setPc_cpu_jammed (v : Word) (s : State) : (s.setPc v).cpu.jammed = s.cpu.jammed := rfl
@[simp] theorem State.setPc_ddr (v : Word) (s : State) : (s.setPc v).ddr = s.ddr := rfl
@[simp] theorem State.setPc_pr (v : Word) (s : State) : (s.setPc v).pr = s.pr := rfl
@[simp] theorem State.setPc_ram (v : Word) (s : State) : (s.setPc v).ram = s.ram := rfl
@[simp] theorem State.setPc_colorRam (v : Word) (s : State) : (s.setPc v).colorRam = s.colorRam := rfl
@[simp] theorem State.setPc_vic (v : Word) (s : State) : (s.setPc v).vic = s.vic := rfl
@[simp] theorem State.setPc_cia1 (v : Word) (s : State) : (s.setPc v).cia1 = s.cia1 := rfl
@[simp] theorem State.setPc_cia2 (v : Word) (s : State) : (s.setPc v).cia2 = s.cia2 := rfl
@[simp] theorem State.setPc_sid (v : Word) (s : State) : (s.setPc v).sid = s.sid := rfl
@[simp] theorem State.setPc_input (v : Word) (s : State) : (s.setPc v).input = s.input := rfl
@[simp] theorem State.setPc_session (v : Word) (s : State) : (s.setPc v).session = s.session := rfl
@[simp] theorem State.setPc_cycle (v : Word) (s : State) : (s.setPc v).cycle = s.cycle := rfl
@[simp] theorem State.setPc_diag (v : Word) (s : State) : (s.setPc v).diag = s.diag := rfl
@[simp] theorem State.setPc_params (v : Word) (s : State) : (s.setPc v).params = s.params := rfl
@[simp] theorem State.setPc_trace (v : Word) (s : State) : (s.setPc v).trace = s.trace := rfl
@[simp] theorem State.setPc_owed (v : Word) (s : State) : (s.setPc v).owed = s.owed := rfl
@[simp] theorem State.setPc_draws (v : Word) (s : State) : (s.setPc v).draws = s.draws := rfl

/-! ## `State.setP` -/

@[simp] theorem State.setP_cpu_a (p : Flags) (s : State) : (s.setP p).cpu.a = s.cpu.a := rfl
@[simp] theorem State.setP_cpu_x (p : Flags) (s : State) : (s.setP p).cpu.x = s.cpu.x := rfl
@[simp] theorem State.setP_cpu_y (p : Flags) (s : State) : (s.setP p).cpu.y = s.cpu.y := rfl
@[simp] theorem State.setP_cpu_s (p : Flags) (s : State) : (s.setP p).cpu.s = s.cpu.s := rfl
@[simp] theorem State.setP_cpu_pc (p : Flags) (s : State) : (s.setP p).cpu.pc = s.cpu.pc := rfl
@[simp] theorem State.setP_cpu_p (p : Flags) (s : State) : (s.setP p).cpu.p = p := rfl
@[simp] theorem State.setP_cpu_nmiPrev (p : Flags) (s : State) : (s.setP p).cpu.nmiPrev = s.cpu.nmiPrev := rfl
@[simp] theorem State.setP_cpu_nmiPending (p : Flags) (s : State) :
    (s.setP p).cpu.nmiPending = s.cpu.nmiPending := rfl
@[simp] theorem State.setP_cpu_intLatch (p : Flags) (s : State) : (s.setP p).cpu.intLatch = s.cpu.intLatch := rfl
@[simp] theorem State.setP_cpu_jammed (p : Flags) (s : State) : (s.setP p).cpu.jammed = s.cpu.jammed := rfl
@[simp] theorem State.setP_ddr (p : Flags) (s : State) : (s.setP p).ddr = s.ddr := rfl
@[simp] theorem State.setP_pr (p : Flags) (s : State) : (s.setP p).pr = s.pr := rfl
@[simp] theorem State.setP_ram (p : Flags) (s : State) : (s.setP p).ram = s.ram := rfl
@[simp] theorem State.setP_colorRam (p : Flags) (s : State) : (s.setP p).colorRam = s.colorRam := rfl
@[simp] theorem State.setP_vic (p : Flags) (s : State) : (s.setP p).vic = s.vic := rfl
@[simp] theorem State.setP_cia1 (p : Flags) (s : State) : (s.setP p).cia1 = s.cia1 := rfl
@[simp] theorem State.setP_cia2 (p : Flags) (s : State) : (s.setP p).cia2 = s.cia2 := rfl
@[simp] theorem State.setP_sid (p : Flags) (s : State) : (s.setP p).sid = s.sid := rfl
@[simp] theorem State.setP_input (p : Flags) (s : State) : (s.setP p).input = s.input := rfl
@[simp] theorem State.setP_session (p : Flags) (s : State) : (s.setP p).session = s.session := rfl
@[simp] theorem State.setP_cycle (p : Flags) (s : State) : (s.setP p).cycle = s.cycle := rfl
@[simp] theorem State.setP_diag (p : Flags) (s : State) : (s.setP p).diag = s.diag := rfl
@[simp] theorem State.setP_params (p : Flags) (s : State) : (s.setP p).params = s.params := rfl
@[simp] theorem State.setP_trace (p : Flags) (s : State) : (s.setP p).trace = s.trace := rfl
@[simp] theorem State.setP_owed (p : Flags) (s : State) : (s.setP p).owed = s.owed := rfl
@[simp] theorem State.setP_draws (p : Flags) (s : State) : (s.setP p).draws = s.draws := rfl

/-! ## `State.setNZ` -/

@[simp] theorem State.setNZ_cpu_a (v : Byte) (s : State) : (s.setNZ v).cpu.a = s.cpu.a := rfl
@[simp] theorem State.setNZ_cpu_x (v : Byte) (s : State) : (s.setNZ v).cpu.x = s.cpu.x := rfl
@[simp] theorem State.setNZ_cpu_y (v : Byte) (s : State) : (s.setNZ v).cpu.y = s.cpu.y := rfl
@[simp] theorem State.setNZ_cpu_s (v : Byte) (s : State) : (s.setNZ v).cpu.s = s.cpu.s := rfl
@[simp] theorem State.setNZ_cpu_pc (v : Byte) (s : State) : (s.setNZ v).cpu.pc = s.cpu.pc := rfl
@[simp] theorem State.setNZ_cpu_p (v : Byte) (s : State) : (s.setNZ v).cpu.p = s.cpu.p.setNZ v := rfl
@[simp] theorem State.setNZ_cpu_nmiPrev (v : Byte) (s : State) : (s.setNZ v).cpu.nmiPrev = s.cpu.nmiPrev := rfl
@[simp] theorem State.setNZ_cpu_nmiPending (v : Byte) (s : State) :
    (s.setNZ v).cpu.nmiPending = s.cpu.nmiPending := rfl
@[simp] theorem State.setNZ_cpu_intLatch (v : Byte) (s : State) : (s.setNZ v).cpu.intLatch = s.cpu.intLatch := rfl
@[simp] theorem State.setNZ_cpu_jammed (v : Byte) (s : State) : (s.setNZ v).cpu.jammed = s.cpu.jammed := rfl
@[simp] theorem State.setNZ_ddr (v : Byte) (s : State) : (s.setNZ v).ddr = s.ddr := rfl
@[simp] theorem State.setNZ_pr (v : Byte) (s : State) : (s.setNZ v).pr = s.pr := rfl
@[simp] theorem State.setNZ_ram (v : Byte) (s : State) : (s.setNZ v).ram = s.ram := rfl
@[simp] theorem State.setNZ_colorRam (v : Byte) (s : State) : (s.setNZ v).colorRam = s.colorRam := rfl
@[simp] theorem State.setNZ_vic (v : Byte) (s : State) : (s.setNZ v).vic = s.vic := rfl
@[simp] theorem State.setNZ_cia1 (v : Byte) (s : State) : (s.setNZ v).cia1 = s.cia1 := rfl
@[simp] theorem State.setNZ_cia2 (v : Byte) (s : State) : (s.setNZ v).cia2 = s.cia2 := rfl
@[simp] theorem State.setNZ_sid (v : Byte) (s : State) : (s.setNZ v).sid = s.sid := rfl
@[simp] theorem State.setNZ_input (v : Byte) (s : State) : (s.setNZ v).input = s.input := rfl
@[simp] theorem State.setNZ_session (v : Byte) (s : State) : (s.setNZ v).session = s.session := rfl
@[simp] theorem State.setNZ_cycle (v : Byte) (s : State) : (s.setNZ v).cycle = s.cycle := rfl
@[simp] theorem State.setNZ_diag (v : Byte) (s : State) : (s.setNZ v).diag = s.diag := rfl
@[simp] theorem State.setNZ_params (v : Byte) (s : State) : (s.setNZ v).params = s.params := rfl
@[simp] theorem State.setNZ_trace (v : Byte) (s : State) : (s.setNZ v).trace = s.trace := rfl
@[simp] theorem State.setNZ_owed (v : Byte) (s : State) : (s.setNZ v).owed = s.owed := rfl
@[simp] theorem State.setNZ_draws (v : Byte) (s : State) : (s.setNZ v).draws = s.draws := rfl

/-! ## `State.setC` -/

@[simp] theorem State.setC_cpu_a (c : Bool) (s : State) : (s.setC c).cpu.a = s.cpu.a := rfl
@[simp] theorem State.setC_cpu_x (c : Bool) (s : State) : (s.setC c).cpu.x = s.cpu.x := rfl
@[simp] theorem State.setC_cpu_y (c : Bool) (s : State) : (s.setC c).cpu.y = s.cpu.y := rfl
@[simp] theorem State.setC_cpu_s (c : Bool) (s : State) : (s.setC c).cpu.s = s.cpu.s := rfl
@[simp] theorem State.setC_cpu_pc (c : Bool) (s : State) : (s.setC c).cpu.pc = s.cpu.pc := rfl
@[simp] theorem State.setC_cpu_p (c : Bool) (s : State) : (s.setC c).cpu.p = { s.cpu.p with c := c } := rfl
@[simp] theorem State.setC_cpu_nmiPrev (c : Bool) (s : State) : (s.setC c).cpu.nmiPrev = s.cpu.nmiPrev := rfl
@[simp] theorem State.setC_cpu_nmiPending (c : Bool) (s : State) : (s.setC c).cpu.nmiPending = s.cpu.nmiPending := rfl
@[simp] theorem State.setC_cpu_intLatch (c : Bool) (s : State) : (s.setC c).cpu.intLatch = s.cpu.intLatch := rfl
@[simp] theorem State.setC_cpu_jammed (c : Bool) (s : State) : (s.setC c).cpu.jammed = s.cpu.jammed := rfl
@[simp] theorem State.setC_ddr (c : Bool) (s : State) : (s.setC c).ddr = s.ddr := rfl
@[simp] theorem State.setC_pr (c : Bool) (s : State) : (s.setC c).pr = s.pr := rfl
@[simp] theorem State.setC_ram (c : Bool) (s : State) : (s.setC c).ram = s.ram := rfl
@[simp] theorem State.setC_colorRam (c : Bool) (s : State) : (s.setC c).colorRam = s.colorRam := rfl
@[simp] theorem State.setC_vic (c : Bool) (s : State) : (s.setC c).vic = s.vic := rfl
@[simp] theorem State.setC_cia1 (c : Bool) (s : State) : (s.setC c).cia1 = s.cia1 := rfl
@[simp] theorem State.setC_cia2 (c : Bool) (s : State) : (s.setC c).cia2 = s.cia2 := rfl
@[simp] theorem State.setC_sid (c : Bool) (s : State) : (s.setC c).sid = s.sid := rfl
@[simp] theorem State.setC_input (c : Bool) (s : State) : (s.setC c).input = s.input := rfl
@[simp] theorem State.setC_session (c : Bool) (s : State) : (s.setC c).session = s.session := rfl
@[simp] theorem State.setC_cycle (c : Bool) (s : State) : (s.setC c).cycle = s.cycle := rfl
@[simp] theorem State.setC_diag (c : Bool) (s : State) : (s.setC c).diag = s.diag := rfl
@[simp] theorem State.setC_params (c : Bool) (s : State) : (s.setC c).params = s.params := rfl
@[simp] theorem State.setC_trace (c : Bool) (s : State) : (s.setC c).trace = s.trace := rfl
@[simp] theorem State.setC_owed (c : Bool) (s : State) : (s.setC c).owed = s.owed := rfl
@[simp] theorem State.setC_draws (c : Bool) (s : State) : (s.setC c).draws = s.draws := rfl

/-! ## `State.setI` -/

@[simp] theorem State.setI_cpu_a (i : Bool) (s : State) : (s.setI i).cpu.a = s.cpu.a := rfl
@[simp] theorem State.setI_cpu_x (i : Bool) (s : State) : (s.setI i).cpu.x = s.cpu.x := rfl
@[simp] theorem State.setI_cpu_y (i : Bool) (s : State) : (s.setI i).cpu.y = s.cpu.y := rfl
@[simp] theorem State.setI_cpu_s (i : Bool) (s : State) : (s.setI i).cpu.s = s.cpu.s := rfl
@[simp] theorem State.setI_cpu_pc (i : Bool) (s : State) : (s.setI i).cpu.pc = s.cpu.pc := rfl
@[simp] theorem State.setI_cpu_p (i : Bool) (s : State) : (s.setI i).cpu.p = { s.cpu.p with i := i } := rfl
@[simp] theorem State.setI_cpu_nmiPrev (i : Bool) (s : State) : (s.setI i).cpu.nmiPrev = s.cpu.nmiPrev := rfl
@[simp] theorem State.setI_cpu_nmiPending (i : Bool) (s : State) : (s.setI i).cpu.nmiPending = s.cpu.nmiPending := rfl
@[simp] theorem State.setI_cpu_intLatch (i : Bool) (s : State) : (s.setI i).cpu.intLatch = s.cpu.intLatch := rfl
@[simp] theorem State.setI_cpu_jammed (i : Bool) (s : State) : (s.setI i).cpu.jammed = s.cpu.jammed := rfl
@[simp] theorem State.setI_ddr (i : Bool) (s : State) : (s.setI i).ddr = s.ddr := rfl
@[simp] theorem State.setI_pr (i : Bool) (s : State) : (s.setI i).pr = s.pr := rfl
@[simp] theorem State.setI_ram (i : Bool) (s : State) : (s.setI i).ram = s.ram := rfl
@[simp] theorem State.setI_colorRam (i : Bool) (s : State) : (s.setI i).colorRam = s.colorRam := rfl
@[simp] theorem State.setI_vic (i : Bool) (s : State) : (s.setI i).vic = s.vic := rfl
@[simp] theorem State.setI_cia1 (i : Bool) (s : State) : (s.setI i).cia1 = s.cia1 := rfl
@[simp] theorem State.setI_cia2 (i : Bool) (s : State) : (s.setI i).cia2 = s.cia2 := rfl
@[simp] theorem State.setI_sid (i : Bool) (s : State) : (s.setI i).sid = s.sid := rfl
@[simp] theorem State.setI_input (i : Bool) (s : State) : (s.setI i).input = s.input := rfl
@[simp] theorem State.setI_session (i : Bool) (s : State) : (s.setI i).session = s.session := rfl
@[simp] theorem State.setI_cycle (i : Bool) (s : State) : (s.setI i).cycle = s.cycle := rfl
@[simp] theorem State.setI_diag (i : Bool) (s : State) : (s.setI i).diag = s.diag := rfl
@[simp] theorem State.setI_params (i : Bool) (s : State) : (s.setI i).params = s.params := rfl
@[simp] theorem State.setI_trace (i : Bool) (s : State) : (s.setI i).trace = s.trace := rfl
@[simp] theorem State.setI_owed (i : Bool) (s : State) : (s.setI i).owed = s.owed := rfl
@[simp] theorem State.setI_draws (i : Bool) (s : State) : (s.setI i).draws = s.draws := rfl

/-! ## `State.loadA` -/

@[simp] theorem State.loadA_cpu_a (v : Byte) (s : State) : (s.loadA v).cpu.a = v := rfl
@[simp] theorem State.loadA_cpu_x (v : Byte) (s : State) : (s.loadA v).cpu.x = s.cpu.x := rfl
@[simp] theorem State.loadA_cpu_y (v : Byte) (s : State) : (s.loadA v).cpu.y = s.cpu.y := rfl
@[simp] theorem State.loadA_cpu_s (v : Byte) (s : State) : (s.loadA v).cpu.s = s.cpu.s := rfl
@[simp] theorem State.loadA_cpu_pc (v : Byte) (s : State) : (s.loadA v).cpu.pc = s.cpu.pc := rfl
@[simp] theorem State.loadA_cpu_p (v : Byte) (s : State) : (s.loadA v).cpu.p = s.cpu.p.setNZ v := rfl
@[simp] theorem State.loadA_cpu_nmiPrev (v : Byte) (s : State) : (s.loadA v).cpu.nmiPrev = s.cpu.nmiPrev := rfl
@[simp] theorem State.loadA_cpu_nmiPending (v : Byte) (s : State) :
    (s.loadA v).cpu.nmiPending = s.cpu.nmiPending := rfl
@[simp] theorem State.loadA_cpu_intLatch (v : Byte) (s : State) : (s.loadA v).cpu.intLatch = s.cpu.intLatch := rfl
@[simp] theorem State.loadA_cpu_jammed (v : Byte) (s : State) : (s.loadA v).cpu.jammed = s.cpu.jammed := rfl
@[simp] theorem State.loadA_ddr (v : Byte) (s : State) : (s.loadA v).ddr = s.ddr := rfl
@[simp] theorem State.loadA_pr (v : Byte) (s : State) : (s.loadA v).pr = s.pr := rfl
@[simp] theorem State.loadA_ram (v : Byte) (s : State) : (s.loadA v).ram = s.ram := rfl
@[simp] theorem State.loadA_colorRam (v : Byte) (s : State) : (s.loadA v).colorRam = s.colorRam := rfl
@[simp] theorem State.loadA_vic (v : Byte) (s : State) : (s.loadA v).vic = s.vic := rfl
@[simp] theorem State.loadA_cia1 (v : Byte) (s : State) : (s.loadA v).cia1 = s.cia1 := rfl
@[simp] theorem State.loadA_cia2 (v : Byte) (s : State) : (s.loadA v).cia2 = s.cia2 := rfl
@[simp] theorem State.loadA_sid (v : Byte) (s : State) : (s.loadA v).sid = s.sid := rfl
@[simp] theorem State.loadA_input (v : Byte) (s : State) : (s.loadA v).input = s.input := rfl
@[simp] theorem State.loadA_session (v : Byte) (s : State) : (s.loadA v).session = s.session := rfl
@[simp] theorem State.loadA_cycle (v : Byte) (s : State) : (s.loadA v).cycle = s.cycle := rfl
@[simp] theorem State.loadA_diag (v : Byte) (s : State) : (s.loadA v).diag = s.diag := rfl
@[simp] theorem State.loadA_params (v : Byte) (s : State) : (s.loadA v).params = s.params := rfl
@[simp] theorem State.loadA_trace (v : Byte) (s : State) : (s.loadA v).trace = s.trace := rfl
@[simp] theorem State.loadA_owed (v : Byte) (s : State) : (s.loadA v).owed = s.owed := rfl
@[simp] theorem State.loadA_draws (v : Byte) (s : State) : (s.loadA v).draws = s.draws := rfl

/-! ## `State.loadX` -/

@[simp] theorem State.loadX_cpu_a (v : Byte) (s : State) : (s.loadX v).cpu.a = s.cpu.a := rfl
@[simp] theorem State.loadX_cpu_x (v : Byte) (s : State) : (s.loadX v).cpu.x = v := rfl
@[simp] theorem State.loadX_cpu_y (v : Byte) (s : State) : (s.loadX v).cpu.y = s.cpu.y := rfl
@[simp] theorem State.loadX_cpu_s (v : Byte) (s : State) : (s.loadX v).cpu.s = s.cpu.s := rfl
@[simp] theorem State.loadX_cpu_pc (v : Byte) (s : State) : (s.loadX v).cpu.pc = s.cpu.pc := rfl
@[simp] theorem State.loadX_cpu_p (v : Byte) (s : State) : (s.loadX v).cpu.p = s.cpu.p.setNZ v := rfl
@[simp] theorem State.loadX_cpu_nmiPrev (v : Byte) (s : State) : (s.loadX v).cpu.nmiPrev = s.cpu.nmiPrev := rfl
@[simp] theorem State.loadX_cpu_nmiPending (v : Byte) (s : State) :
    (s.loadX v).cpu.nmiPending = s.cpu.nmiPending := rfl
@[simp] theorem State.loadX_cpu_intLatch (v : Byte) (s : State) : (s.loadX v).cpu.intLatch = s.cpu.intLatch := rfl
@[simp] theorem State.loadX_cpu_jammed (v : Byte) (s : State) : (s.loadX v).cpu.jammed = s.cpu.jammed := rfl
@[simp] theorem State.loadX_ddr (v : Byte) (s : State) : (s.loadX v).ddr = s.ddr := rfl
@[simp] theorem State.loadX_pr (v : Byte) (s : State) : (s.loadX v).pr = s.pr := rfl
@[simp] theorem State.loadX_ram (v : Byte) (s : State) : (s.loadX v).ram = s.ram := rfl
@[simp] theorem State.loadX_colorRam (v : Byte) (s : State) : (s.loadX v).colorRam = s.colorRam := rfl
@[simp] theorem State.loadX_vic (v : Byte) (s : State) : (s.loadX v).vic = s.vic := rfl
@[simp] theorem State.loadX_cia1 (v : Byte) (s : State) : (s.loadX v).cia1 = s.cia1 := rfl
@[simp] theorem State.loadX_cia2 (v : Byte) (s : State) : (s.loadX v).cia2 = s.cia2 := rfl
@[simp] theorem State.loadX_sid (v : Byte) (s : State) : (s.loadX v).sid = s.sid := rfl
@[simp] theorem State.loadX_input (v : Byte) (s : State) : (s.loadX v).input = s.input := rfl
@[simp] theorem State.loadX_session (v : Byte) (s : State) : (s.loadX v).session = s.session := rfl
@[simp] theorem State.loadX_cycle (v : Byte) (s : State) : (s.loadX v).cycle = s.cycle := rfl
@[simp] theorem State.loadX_diag (v : Byte) (s : State) : (s.loadX v).diag = s.diag := rfl
@[simp] theorem State.loadX_params (v : Byte) (s : State) : (s.loadX v).params = s.params := rfl
@[simp] theorem State.loadX_trace (v : Byte) (s : State) : (s.loadX v).trace = s.trace := rfl
@[simp] theorem State.loadX_owed (v : Byte) (s : State) : (s.loadX v).owed = s.owed := rfl
@[simp] theorem State.loadX_draws (v : Byte) (s : State) : (s.loadX v).draws = s.draws := rfl

/-! ## `State.loadY` -/

@[simp] theorem State.loadY_cpu_a (v : Byte) (s : State) : (s.loadY v).cpu.a = s.cpu.a := rfl
@[simp] theorem State.loadY_cpu_x (v : Byte) (s : State) : (s.loadY v).cpu.x = s.cpu.x := rfl
@[simp] theorem State.loadY_cpu_y (v : Byte) (s : State) : (s.loadY v).cpu.y = v := rfl
@[simp] theorem State.loadY_cpu_s (v : Byte) (s : State) : (s.loadY v).cpu.s = s.cpu.s := rfl
@[simp] theorem State.loadY_cpu_pc (v : Byte) (s : State) : (s.loadY v).cpu.pc = s.cpu.pc := rfl
@[simp] theorem State.loadY_cpu_p (v : Byte) (s : State) : (s.loadY v).cpu.p = s.cpu.p.setNZ v := rfl
@[simp] theorem State.loadY_cpu_nmiPrev (v : Byte) (s : State) : (s.loadY v).cpu.nmiPrev = s.cpu.nmiPrev := rfl
@[simp] theorem State.loadY_cpu_nmiPending (v : Byte) (s : State) :
    (s.loadY v).cpu.nmiPending = s.cpu.nmiPending := rfl
@[simp] theorem State.loadY_cpu_intLatch (v : Byte) (s : State) : (s.loadY v).cpu.intLatch = s.cpu.intLatch := rfl
@[simp] theorem State.loadY_cpu_jammed (v : Byte) (s : State) : (s.loadY v).cpu.jammed = s.cpu.jammed := rfl
@[simp] theorem State.loadY_ddr (v : Byte) (s : State) : (s.loadY v).ddr = s.ddr := rfl
@[simp] theorem State.loadY_pr (v : Byte) (s : State) : (s.loadY v).pr = s.pr := rfl
@[simp] theorem State.loadY_ram (v : Byte) (s : State) : (s.loadY v).ram = s.ram := rfl
@[simp] theorem State.loadY_colorRam (v : Byte) (s : State) : (s.loadY v).colorRam = s.colorRam := rfl
@[simp] theorem State.loadY_vic (v : Byte) (s : State) : (s.loadY v).vic = s.vic := rfl
@[simp] theorem State.loadY_cia1 (v : Byte) (s : State) : (s.loadY v).cia1 = s.cia1 := rfl
@[simp] theorem State.loadY_cia2 (v : Byte) (s : State) : (s.loadY v).cia2 = s.cia2 := rfl
@[simp] theorem State.loadY_sid (v : Byte) (s : State) : (s.loadY v).sid = s.sid := rfl
@[simp] theorem State.loadY_input (v : Byte) (s : State) : (s.loadY v).input = s.input := rfl
@[simp] theorem State.loadY_session (v : Byte) (s : State) : (s.loadY v).session = s.session := rfl
@[simp] theorem State.loadY_cycle (v : Byte) (s : State) : (s.loadY v).cycle = s.cycle := rfl
@[simp] theorem State.loadY_diag (v : Byte) (s : State) : (s.loadY v).diag = s.diag := rfl
@[simp] theorem State.loadY_params (v : Byte) (s : State) : (s.loadY v).params = s.params := rfl
@[simp] theorem State.loadY_trace (v : Byte) (s : State) : (s.loadY v).trace = s.trace := rfl
@[simp] theorem State.loadY_owed (v : Byte) (s : State) : (s.loadY v).owed = s.owed := rfl
@[simp] theorem State.loadY_draws (v : Byte) (s : State) : (s.loadY v).draws = s.draws := rfl

/-! ## `State.setAlu` -/

@[simp] theorem State.setAlu_cpu_a (o : AluResult) (s : State) : (s.setAlu o).cpu.a = o.r := rfl
@[simp] theorem State.setAlu_cpu_x (o : AluResult) (s : State) : (s.setAlu o).cpu.x = s.cpu.x := rfl
@[simp] theorem State.setAlu_cpu_y (o : AluResult) (s : State) : (s.setAlu o).cpu.y = s.cpu.y := rfl
@[simp] theorem State.setAlu_cpu_s (o : AluResult) (s : State) : (s.setAlu o).cpu.s = s.cpu.s := rfl
@[simp] theorem State.setAlu_cpu_pc (o : AluResult) (s : State) : (s.setAlu o).cpu.pc = s.cpu.pc := rfl
@[simp] theorem State.setAlu_cpu_p (o : AluResult) (s : State) : (s.setAlu o).cpu.p = s.cpu.p.setAlu o := rfl
@[simp] theorem State.setAlu_cpu_nmiPrev (o : AluResult) (s : State) : (s.setAlu o).cpu.nmiPrev = s.cpu.nmiPrev := rfl
@[simp] theorem State.setAlu_cpu_nmiPending (o : AluResult) (s : State) :
    (s.setAlu o).cpu.nmiPending = s.cpu.nmiPending := rfl
@[simp] theorem State.setAlu_cpu_intLatch (o : AluResult) (s : State) :
    (s.setAlu o).cpu.intLatch = s.cpu.intLatch := rfl
@[simp] theorem State.setAlu_cpu_jammed (o : AluResult) (s : State) : (s.setAlu o).cpu.jammed = s.cpu.jammed := rfl
@[simp] theorem State.setAlu_ddr (o : AluResult) (s : State) : (s.setAlu o).ddr = s.ddr := rfl
@[simp] theorem State.setAlu_pr (o : AluResult) (s : State) : (s.setAlu o).pr = s.pr := rfl
@[simp] theorem State.setAlu_ram (o : AluResult) (s : State) : (s.setAlu o).ram = s.ram := rfl
@[simp] theorem State.setAlu_colorRam (o : AluResult) (s : State) : (s.setAlu o).colorRam = s.colorRam := rfl
@[simp] theorem State.setAlu_vic (o : AluResult) (s : State) : (s.setAlu o).vic = s.vic := rfl
@[simp] theorem State.setAlu_cia1 (o : AluResult) (s : State) : (s.setAlu o).cia1 = s.cia1 := rfl
@[simp] theorem State.setAlu_cia2 (o : AluResult) (s : State) : (s.setAlu o).cia2 = s.cia2 := rfl
@[simp] theorem State.setAlu_sid (o : AluResult) (s : State) : (s.setAlu o).sid = s.sid := rfl
@[simp] theorem State.setAlu_input (o : AluResult) (s : State) : (s.setAlu o).input = s.input := rfl
@[simp] theorem State.setAlu_session (o : AluResult) (s : State) : (s.setAlu o).session = s.session := rfl
@[simp] theorem State.setAlu_cycle (o : AluResult) (s : State) : (s.setAlu o).cycle = s.cycle := rfl
@[simp] theorem State.setAlu_diag (o : AluResult) (s : State) : (s.setAlu o).diag = s.diag := rfl
@[simp] theorem State.setAlu_params (o : AluResult) (s : State) : (s.setAlu o).params = s.params := rfl
@[simp] theorem State.setAlu_trace (o : AluResult) (s : State) : (s.setAlu o).trace = s.trace := rfl
@[simp] theorem State.setAlu_owed (o : AluResult) (s : State) : (s.setAlu o).owed = s.owed := rfl
@[simp] theorem State.setAlu_draws (o : AluResult) (s : State) : (s.setAlu o).draws = s.draws := rfl

/-! ## `State.log` -/

@[simp] theorem State.log_cpu_a (e : BusAccess) (s : State) : (s.log e).cpu.a = s.cpu.a := rfl
@[simp] theorem State.log_cpu_x (e : BusAccess) (s : State) : (s.log e).cpu.x = s.cpu.x := rfl
@[simp] theorem State.log_cpu_y (e : BusAccess) (s : State) : (s.log e).cpu.y = s.cpu.y := rfl
@[simp] theorem State.log_cpu_s (e : BusAccess) (s : State) : (s.log e).cpu.s = s.cpu.s := rfl
@[simp] theorem State.log_cpu_pc (e : BusAccess) (s : State) : (s.log e).cpu.pc = s.cpu.pc := rfl
@[simp] theorem State.log_cpu_p (e : BusAccess) (s : State) : (s.log e).cpu.p = s.cpu.p := rfl
@[simp] theorem State.log_cpu_nmiPrev (e : BusAccess) (s : State) : (s.log e).cpu.nmiPrev = s.cpu.nmiPrev := rfl
@[simp] theorem State.log_cpu_nmiPending (e : BusAccess) (s : State) :
    (s.log e).cpu.nmiPending = s.cpu.nmiPending := rfl
@[simp] theorem State.log_cpu_intLatch (e : BusAccess) (s : State) : (s.log e).cpu.intLatch = s.cpu.intLatch := rfl
@[simp] theorem State.log_cpu_jammed (e : BusAccess) (s : State) : (s.log e).cpu.jammed = s.cpu.jammed := rfl
@[simp] theorem State.log_ddr (e : BusAccess) (s : State) : (s.log e).ddr = s.ddr := rfl
@[simp] theorem State.log_pr (e : BusAccess) (s : State) : (s.log e).pr = s.pr := rfl
@[simp] theorem State.log_ram (e : BusAccess) (s : State) : (s.log e).ram = s.ram := rfl
@[simp] theorem State.log_colorRam (e : BusAccess) (s : State) : (s.log e).colorRam = s.colorRam := rfl
@[simp] theorem State.log_vic (e : BusAccess) (s : State) : (s.log e).vic = s.vic := rfl
@[simp] theorem State.log_cia1 (e : BusAccess) (s : State) : (s.log e).cia1 = s.cia1 := rfl
@[simp] theorem State.log_cia2 (e : BusAccess) (s : State) : (s.log e).cia2 = s.cia2 := rfl
@[simp] theorem State.log_sid (e : BusAccess) (s : State) : (s.log e).sid = s.sid := rfl
@[simp] theorem State.log_input (e : BusAccess) (s : State) : (s.log e).input = s.input := rfl
@[simp] theorem State.log_session (e : BusAccess) (s : State) : (s.log e).session = s.session := rfl
@[simp] theorem State.log_cycle (e : BusAccess) (s : State) : (s.log e).cycle = s.cycle := rfl
@[simp] theorem State.log_diag (e : BusAccess) (s : State) : (s.log e).diag = s.diag := rfl
@[simp] theorem State.log_params (e : BusAccess) (s : State) : (s.log e).params = s.params := rfl
@[simp] theorem State.log_trace (e : BusAccess) (s : State) : (s.log e).trace = e :: s.trace := rfl
@[simp] theorem State.log_owed (e : BusAccess) (s : State) : (s.log e).owed = s.owed := rfl
@[simp] theorem State.log_draws (e : BusAccess) (s : State) : (s.log e).draws = s.draws := rfl

/-! ## `State.writeRam` -/

@[simp] theorem State.writeRam_cpu_a (a : Word) (v : Byte) (s : State) : (s.writeRam a v).cpu.a = s.cpu.a := rfl
@[simp] theorem State.writeRam_cpu_x (a : Word) (v : Byte) (s : State) : (s.writeRam a v).cpu.x = s.cpu.x := rfl
@[simp] theorem State.writeRam_cpu_y (a : Word) (v : Byte) (s : State) : (s.writeRam a v).cpu.y = s.cpu.y := rfl
@[simp] theorem State.writeRam_cpu_s (a : Word) (v : Byte) (s : State) : (s.writeRam a v).cpu.s = s.cpu.s := rfl
@[simp] theorem State.writeRam_cpu_pc (a : Word) (v : Byte) (s : State) : (s.writeRam a v).cpu.pc = s.cpu.pc := rfl
@[simp] theorem State.writeRam_cpu_p (a : Word) (v : Byte) (s : State) : (s.writeRam a v).cpu.p = s.cpu.p := rfl
@[simp] theorem State.writeRam_cpu_nmiPrev (a : Word) (v : Byte) (s : State) :
    (s.writeRam a v).cpu.nmiPrev = s.cpu.nmiPrev := rfl
@[simp] theorem State.writeRam_cpu_nmiPending (a : Word) (v : Byte) (s : State) :
    (s.writeRam a v).cpu.nmiPending = s.cpu.nmiPending := rfl
@[simp] theorem State.writeRam_cpu_intLatch (a : Word) (v : Byte) (s : State) :
    (s.writeRam a v).cpu.intLatch = s.cpu.intLatch := rfl
@[simp] theorem State.writeRam_cpu_jammed (a : Word) (v : Byte) (s : State) :
    (s.writeRam a v).cpu.jammed = s.cpu.jammed := rfl
@[simp] theorem State.writeRam_ddr (a : Word) (v : Byte) (s : State) : (s.writeRam a v).ddr = s.ddr := rfl
@[simp] theorem State.writeRam_pr (a : Word) (v : Byte) (s : State) : (s.writeRam a v).pr = s.pr := rfl
@[simp] theorem State.writeRam_ram (a : Word) (v : Byte) (s : State) :
    (s.writeRam a v).ram = s.ram.write a.toNat v := rfl
@[simp] theorem State.writeRam_colorRam (a : Word) (v : Byte) (s : State) :
    (s.writeRam a v).colorRam = s.colorRam := rfl
@[simp] theorem State.writeRam_vic (a : Word) (v : Byte) (s : State) : (s.writeRam a v).vic = s.vic := rfl
@[simp] theorem State.writeRam_cia1 (a : Word) (v : Byte) (s : State) : (s.writeRam a v).cia1 = s.cia1 := rfl
@[simp] theorem State.writeRam_cia2 (a : Word) (v : Byte) (s : State) : (s.writeRam a v).cia2 = s.cia2 := rfl
@[simp] theorem State.writeRam_sid (a : Word) (v : Byte) (s : State) : (s.writeRam a v).sid = s.sid := rfl
@[simp] theorem State.writeRam_input (a : Word) (v : Byte) (s : State) : (s.writeRam a v).input = s.input := rfl
@[simp] theorem State.writeRam_session (a : Word) (v : Byte) (s : State) : (s.writeRam a v).session = s.session := rfl
@[simp] theorem State.writeRam_cycle (a : Word) (v : Byte) (s : State) : (s.writeRam a v).cycle = s.cycle := rfl
@[simp] theorem State.writeRam_diag (a : Word) (v : Byte) (s : State) : (s.writeRam a v).diag = s.diag := rfl
@[simp] theorem State.writeRam_params (a : Word) (v : Byte) (s : State) : (s.writeRam a v).params = s.params := rfl
@[simp] theorem State.writeRam_trace (a : Word) (v : Byte) (s : State) : (s.writeRam a v).trace = s.trace := rfl
@[simp] theorem State.writeRam_owed (a : Word) (v : Byte) (s : State) : (s.writeRam a v).owed = s.owed := rfl
@[simp] theorem State.writeRam_draws (a : Word) (v : Byte) (s : State) : (s.writeRam a v).draws = s.draws := rfl

/-! ## `State.countUnstable` -/

@[simp] theorem State.countUnstable_cpu_a (s : State) : (s.countUnstable).cpu.a = s.cpu.a := rfl
@[simp] theorem State.countUnstable_cpu_x (s : State) : (s.countUnstable).cpu.x = s.cpu.x := rfl
@[simp] theorem State.countUnstable_cpu_y (s : State) : (s.countUnstable).cpu.y = s.cpu.y := rfl
@[simp] theorem State.countUnstable_cpu_s (s : State) : (s.countUnstable).cpu.s = s.cpu.s := rfl
@[simp] theorem State.countUnstable_cpu_pc (s : State) : (s.countUnstable).cpu.pc = s.cpu.pc := rfl
@[simp] theorem State.countUnstable_cpu_p (s : State) : (s.countUnstable).cpu.p = s.cpu.p := rfl
@[simp] theorem State.countUnstable_cpu_nmiPrev (s : State) : (s.countUnstable).cpu.nmiPrev = s.cpu.nmiPrev := rfl
@[simp] theorem State.countUnstable_cpu_nmiPending (s : State) :
    (s.countUnstable).cpu.nmiPending = s.cpu.nmiPending := rfl
@[simp] theorem State.countUnstable_cpu_intLatch (s : State) : (s.countUnstable).cpu.intLatch = s.cpu.intLatch := rfl
@[simp] theorem State.countUnstable_cpu_jammed (s : State) : (s.countUnstable).cpu.jammed = s.cpu.jammed := rfl
@[simp] theorem State.countUnstable_ddr (s : State) : (s.countUnstable).ddr = s.ddr := rfl
@[simp] theorem State.countUnstable_pr (s : State) : (s.countUnstable).pr = s.pr := rfl
@[simp] theorem State.countUnstable_ram (s : State) : (s.countUnstable).ram = s.ram := rfl
@[simp] theorem State.countUnstable_colorRam (s : State) : (s.countUnstable).colorRam = s.colorRam := rfl
@[simp] theorem State.countUnstable_vic (s : State) : (s.countUnstable).vic = s.vic := rfl
@[simp] theorem State.countUnstable_cia1 (s : State) : (s.countUnstable).cia1 = s.cia1 := rfl
@[simp] theorem State.countUnstable_cia2 (s : State) : (s.countUnstable).cia2 = s.cia2 := rfl
@[simp] theorem State.countUnstable_sid (s : State) : (s.countUnstable).sid = s.sid := rfl
@[simp] theorem State.countUnstable_input (s : State) : (s.countUnstable).input = s.input := rfl
@[simp] theorem State.countUnstable_session (s : State) : (s.countUnstable).session = s.session := rfl
@[simp] theorem State.countUnstable_cycle (s : State) : (s.countUnstable).cycle = s.cycle := rfl
@[simp] theorem State.countUnstable_diag (s : State) : (s.countUnstable).diag = s.diag := rfl
@[simp] theorem State.countUnstable_params (s : State) : (s.countUnstable).params = s.params := rfl
@[simp] theorem State.countUnstable_trace (s : State) : (s.countUnstable).trace = s.trace := rfl
@[simp] theorem State.countUnstable_owed (s : State) : (s.countUnstable).owed = s.owed := rfl
@[simp] theorem State.countUnstable_draws (s : State) :
    (s.countUnstable).draws = { s.draws with unstable := s.draws.unstable + 1 } := rfl

/-! ## `diagnostic` -/

@[simp] theorem diagnostic_cpu_a (pc : Word) (op : Byte) (s : State) : (diagnostic pc op s).cpu.a = s.cpu.a := rfl
@[simp] theorem diagnostic_cpu_x (pc : Word) (op : Byte) (s : State) : (diagnostic pc op s).cpu.x = s.cpu.x := rfl
@[simp] theorem diagnostic_cpu_y (pc : Word) (op : Byte) (s : State) : (diagnostic pc op s).cpu.y = s.cpu.y := rfl
@[simp] theorem diagnostic_cpu_s (pc : Word) (op : Byte) (s : State) : (diagnostic pc op s).cpu.s = s.cpu.s := rfl
@[simp] theorem diagnostic_cpu_pc (pc : Word) (op : Byte) (s : State) : (diagnostic pc op s).cpu.pc = s.cpu.pc := rfl
@[simp] theorem diagnostic_cpu_p (pc : Word) (op : Byte) (s : State) : (diagnostic pc op s).cpu.p = s.cpu.p := rfl
@[simp] theorem diagnostic_cpu_nmiPrev (pc : Word) (op : Byte) (s : State) :
    (diagnostic pc op s).cpu.nmiPrev = s.cpu.nmiPrev := rfl
@[simp] theorem diagnostic_cpu_nmiPending (pc : Word) (op : Byte) (s : State) :
    (diagnostic pc op s).cpu.nmiPending = s.cpu.nmiPending := rfl
@[simp] theorem diagnostic_cpu_intLatch (pc : Word) (op : Byte) (s : State) :
    (diagnostic pc op s).cpu.intLatch = s.cpu.intLatch := rfl
@[simp] theorem diagnostic_cpu_jammed (pc : Word) (op : Byte) (s : State) :
    (diagnostic pc op s).cpu.jammed = s.cpu.jammed := rfl
@[simp] theorem diagnostic_ddr (pc : Word) (op : Byte) (s : State) : (diagnostic pc op s).ddr = s.ddr := rfl
@[simp] theorem diagnostic_pr (pc : Word) (op : Byte) (s : State) : (diagnostic pc op s).pr = s.pr := rfl
@[simp] theorem diagnostic_ram (pc : Word) (op : Byte) (s : State) : (diagnostic pc op s).ram = s.ram := rfl
@[simp] theorem diagnostic_colorRam (pc : Word) (op : Byte) (s : State) :
    (diagnostic pc op s).colorRam = s.colorRam := rfl
@[simp] theorem diagnostic_vic (pc : Word) (op : Byte) (s : State) : (diagnostic pc op s).vic = s.vic := rfl
@[simp] theorem diagnostic_cia1 (pc : Word) (op : Byte) (s : State) : (diagnostic pc op s).cia1 = s.cia1 := rfl
@[simp] theorem diagnostic_cia2 (pc : Word) (op : Byte) (s : State) : (diagnostic pc op s).cia2 = s.cia2 := rfl
@[simp] theorem diagnostic_sid (pc : Word) (op : Byte) (s : State) : (diagnostic pc op s).sid = s.sid := rfl
@[simp] theorem diagnostic_input (pc : Word) (op : Byte) (s : State) : (diagnostic pc op s).input = s.input := rfl
@[simp] theorem diagnostic_session (pc : Word) (op : Byte) (s : State) :
    (diagnostic pc op s).session = s.session := rfl
@[simp] theorem diagnostic_cycle (pc : Word) (op : Byte) (s : State) : (diagnostic pc op s).cycle = s.cycle := rfl
@[simp] theorem diagnostic_diag (pc : Word) (op : Byte) (s : State) :
    (diagnostic pc op s).diag = s.diag ++ [{ kind := .illegalOpcode, pc := pc, opcode := op }] := rfl
@[simp] theorem diagnostic_params (pc : Word) (op : Byte) (s : State) : (diagnostic pc op s).params = s.params := rfl
@[simp] theorem diagnostic_trace (pc : Word) (op : Byte) (s : State) : (diagnostic pc op s).trace = s.trace := rfl
@[simp] theorem diagnostic_owed (pc : Word) (op : Byte) (s : State) : (diagnostic pc op s).owed = s.owed := rfl
@[simp] theorem diagnostic_draws (pc : Word) (op : Byte) (s : State) : (diagnostic pc op s).draws = s.draws := rfl

/-! ## `State.emit` -/

@[simp] theorem State.emit_cpu_a (e : HostEvent) (s : State) : (s.emit e).cpu.a = s.cpu.a := rfl
@[simp] theorem State.emit_cpu_x (e : HostEvent) (s : State) : (s.emit e).cpu.x = s.cpu.x := rfl
@[simp] theorem State.emit_cpu_y (e : HostEvent) (s : State) : (s.emit e).cpu.y = s.cpu.y := rfl
@[simp] theorem State.emit_cpu_s (e : HostEvent) (s : State) : (s.emit e).cpu.s = s.cpu.s := rfl
@[simp] theorem State.emit_cpu_pc (e : HostEvent) (s : State) : (s.emit e).cpu.pc = s.cpu.pc := rfl
@[simp] theorem State.emit_cpu_p (e : HostEvent) (s : State) : (s.emit e).cpu.p = s.cpu.p := rfl
@[simp] theorem State.emit_cpu_nmiPrev (e : HostEvent) (s : State) : (s.emit e).cpu.nmiPrev = s.cpu.nmiPrev := rfl
@[simp] theorem State.emit_cpu_nmiPending (e : HostEvent) (s : State) :
    (s.emit e).cpu.nmiPending = s.cpu.nmiPending := rfl
@[simp] theorem State.emit_cpu_intLatch (e : HostEvent) (s : State) : (s.emit e).cpu.intLatch = s.cpu.intLatch := rfl
@[simp] theorem State.emit_cpu_jammed (e : HostEvent) (s : State) : (s.emit e).cpu.jammed = s.cpu.jammed := rfl
@[simp] theorem State.emit_ddr (e : HostEvent) (s : State) : (s.emit e).ddr = s.ddr := rfl
@[simp] theorem State.emit_pr (e : HostEvent) (s : State) : (s.emit e).pr = s.pr := rfl
@[simp] theorem State.emit_ram (e : HostEvent) (s : State) : (s.emit e).ram = s.ram := rfl
@[simp] theorem State.emit_colorRam (e : HostEvent) (s : State) : (s.emit e).colorRam = s.colorRam := rfl
@[simp] theorem State.emit_vic (e : HostEvent) (s : State) : (s.emit e).vic = s.vic := rfl
@[simp] theorem State.emit_cia1 (e : HostEvent) (s : State) : (s.emit e).cia1 = s.cia1 := rfl
@[simp] theorem State.emit_cia2 (e : HostEvent) (s : State) : (s.emit e).cia2 = s.cia2 := rfl
@[simp] theorem State.emit_sid (e : HostEvent) (s : State) : (s.emit e).sid = s.sid := rfl
@[simp] theorem State.emit_input (e : HostEvent) (s : State) : (s.emit e).input = s.input := rfl
@[simp] theorem State.emit_session (e : HostEvent) (s : State) :
    (s.emit e).session = { s.session with events := e :: s.session.events } := rfl
@[simp] theorem State.emit_cycle (e : HostEvent) (s : State) : (s.emit e).cycle = s.cycle := rfl
@[simp] theorem State.emit_diag (e : HostEvent) (s : State) : (s.emit e).diag = s.diag := rfl
@[simp] theorem State.emit_params (e : HostEvent) (s : State) : (s.emit e).params = s.params := rfl
@[simp] theorem State.emit_trace (e : HostEvent) (s : State) : (s.emit e).trace = s.trace := rfl
@[simp] theorem State.emit_owed (e : HostEvent) (s : State) : (s.emit e).owed = s.owed := rfl
@[simp] theorem State.emit_draws (e : HostEvent) (s : State) : (s.emit e).draws = s.draws := rfl

/-! ## `State.setLifecycle` -/

@[simp] theorem State.setLifecycle_cpu_a (l : Lifecycle) (s : State) : (s.setLifecycle l).cpu.a = s.cpu.a := rfl
@[simp] theorem State.setLifecycle_cpu_x (l : Lifecycle) (s : State) : (s.setLifecycle l).cpu.x = s.cpu.x := rfl
@[simp] theorem State.setLifecycle_cpu_y (l : Lifecycle) (s : State) : (s.setLifecycle l).cpu.y = s.cpu.y := rfl
@[simp] theorem State.setLifecycle_cpu_s (l : Lifecycle) (s : State) : (s.setLifecycle l).cpu.s = s.cpu.s := rfl
@[simp] theorem State.setLifecycle_cpu_pc (l : Lifecycle) (s : State) : (s.setLifecycle l).cpu.pc = s.cpu.pc := rfl
@[simp] theorem State.setLifecycle_cpu_p (l : Lifecycle) (s : State) : (s.setLifecycle l).cpu.p = s.cpu.p := rfl
@[simp] theorem State.setLifecycle_cpu_nmiPrev (l : Lifecycle) (s : State) :
    (s.setLifecycle l).cpu.nmiPrev = s.cpu.nmiPrev := rfl
@[simp] theorem State.setLifecycle_cpu_nmiPending (l : Lifecycle) (s : State) :
    (s.setLifecycle l).cpu.nmiPending = s.cpu.nmiPending := rfl
@[simp] theorem State.setLifecycle_cpu_intLatch (l : Lifecycle) (s : State) :
    (s.setLifecycle l).cpu.intLatch = s.cpu.intLatch := rfl
@[simp] theorem State.setLifecycle_cpu_jammed (l : Lifecycle) (s : State) :
    (s.setLifecycle l).cpu.jammed = s.cpu.jammed := rfl
@[simp] theorem State.setLifecycle_ddr (l : Lifecycle) (s : State) : (s.setLifecycle l).ddr = s.ddr := rfl
@[simp] theorem State.setLifecycle_pr (l : Lifecycle) (s : State) : (s.setLifecycle l).pr = s.pr := rfl
@[simp] theorem State.setLifecycle_ram (l : Lifecycle) (s : State) : (s.setLifecycle l).ram = s.ram := rfl
@[simp] theorem State.setLifecycle_colorRam (l : Lifecycle) (s : State) :
    (s.setLifecycle l).colorRam = s.colorRam := rfl
@[simp] theorem State.setLifecycle_vic (l : Lifecycle) (s : State) : (s.setLifecycle l).vic = s.vic := rfl
@[simp] theorem State.setLifecycle_cia1 (l : Lifecycle) (s : State) : (s.setLifecycle l).cia1 = s.cia1 := rfl
@[simp] theorem State.setLifecycle_cia2 (l : Lifecycle) (s : State) : (s.setLifecycle l).cia2 = s.cia2 := rfl
@[simp] theorem State.setLifecycle_sid (l : Lifecycle) (s : State) : (s.setLifecycle l).sid = s.sid := rfl
@[simp] theorem State.setLifecycle_input (l : Lifecycle) (s : State) : (s.setLifecycle l).input = s.input := rfl
@[simp] theorem State.setLifecycle_session (l : Lifecycle) (s : State) :
    (s.setLifecycle l).session = { s.session with lifecycle := l } := rfl
@[simp] theorem State.setLifecycle_cycle (l : Lifecycle) (s : State) : (s.setLifecycle l).cycle = s.cycle := rfl
@[simp] theorem State.setLifecycle_diag (l : Lifecycle) (s : State) : (s.setLifecycle l).diag = s.diag := rfl
@[simp] theorem State.setLifecycle_params (l : Lifecycle) (s : State) : (s.setLifecycle l).params = s.params := rfl
@[simp] theorem State.setLifecycle_trace (l : Lifecycle) (s : State) : (s.setLifecycle l).trace = s.trace := rfl
@[simp] theorem State.setLifecycle_owed (l : Lifecycle) (s : State) : (s.setLifecycle l).owed = s.owed := rfl
@[simp] theorem State.setLifecycle_draws (l : Lifecycle) (s : State) : (s.setLifecycle l).draws = s.draws := rfl

/-! ## `enterMonitor` -/

@[simp] theorem enterMonitor_cpu_a (s : State) : (enterMonitor s).cpu.a = s.cpu.a := rfl
@[simp] theorem enterMonitor_cpu_x (s : State) : (enterMonitor s).cpu.x = s.cpu.x := rfl
@[simp] theorem enterMonitor_cpu_y (s : State) : (enterMonitor s).cpu.y = s.cpu.y := rfl
@[simp] theorem enterMonitor_cpu_s (s : State) : (enterMonitor s).cpu.s = s.cpu.s := rfl
@[simp] theorem enterMonitor_cpu_pc (s : State) : (enterMonitor s).cpu.pc = s.cpu.pc := rfl
@[simp] theorem enterMonitor_cpu_p (s : State) : (enterMonitor s).cpu.p = s.cpu.p := rfl
@[simp] theorem enterMonitor_cpu_nmiPrev (s : State) : (enterMonitor s).cpu.nmiPrev = s.cpu.nmiPrev := rfl
@[simp] theorem enterMonitor_cpu_nmiPending (s : State) : (enterMonitor s).cpu.nmiPending = s.cpu.nmiPending := rfl
@[simp] theorem enterMonitor_cpu_intLatch (s : State) : (enterMonitor s).cpu.intLatch = s.cpu.intLatch := rfl
@[simp] theorem enterMonitor_cpu_jammed (s : State) : (enterMonitor s).cpu.jammed = s.cpu.jammed := rfl
@[simp] theorem enterMonitor_ddr (s : State) : (enterMonitor s).ddr = s.ddr := rfl
@[simp] theorem enterMonitor_pr (s : State) : (enterMonitor s).pr = s.pr := rfl
@[simp] theorem enterMonitor_ram (s : State) : (enterMonitor s).ram = s.ram := rfl
@[simp] theorem enterMonitor_colorRam (s : State) : (enterMonitor s).colorRam = s.colorRam := rfl
@[simp] theorem enterMonitor_vic (s : State) : (enterMonitor s).vic = s.vic := rfl
@[simp] theorem enterMonitor_cia1 (s : State) : (enterMonitor s).cia1 = s.cia1 := rfl
@[simp] theorem enterMonitor_cia2 (s : State) : (enterMonitor s).cia2 = s.cia2 := rfl
@[simp] theorem enterMonitor_sid (s : State) : (enterMonitor s).sid = s.sid := rfl
@[simp] theorem enterMonitor_input (s : State) : (enterMonitor s).input = s.input := rfl
@[simp] theorem enterMonitor_session (s : State) : (enterMonitor s).session = { s.session with
      lifecycle := .inMonitor, monitor := .awaitingCommand, resumeWarp := s.session.lifecycle == .warpRunning } := rfl
@[simp] theorem enterMonitor_cycle (s : State) : (enterMonitor s).cycle = s.cycle := rfl
@[simp] theorem enterMonitor_diag (s : State) : (enterMonitor s).diag = s.diag := rfl
@[simp] theorem enterMonitor_params (s : State) : (enterMonitor s).params = s.params := rfl
@[simp] theorem enterMonitor_trace (s : State) : (enterMonitor s).trace = s.trace := rfl
@[simp] theorem enterMonitor_owed (s : State) : (enterMonitor s).owed = s.owed := rfl
@[simp] theorem enterMonitor_draws (s : State) : (enterMonitor s).draws = s.draws := rfl

end Sys2Proof.Machine
end

