-- ==== Sys2Proof/Laws/Bus.lean ====
section
/-! SUPPORT. What each operation on the bus can change, said once: reads and dummy reads leave the registers, the
port, the stores and the session alone; a write changes one store. -/

namespace Sys2Proof.Machine

/-! ## Reads -/

/-- Counting a joystick draw changes no field but the counters. -/
theorem State.countJoystick_eq (j : Joystick) (s : State) :
    ∃ d, State.countJoystick j s = { s with draws := d } := by
  unfold State.countJoystick
  split
  · exact ⟨s.draws, rfl⟩
  · exact ⟨_, rfl⟩

/-- Counting a draw of OSC3 changes no field but the counters. -/
theorem State.countOsc3_eq (n : BitVec 5) (s : State) : ∃ d, State.countOsc3 n s = { s with draws := d } := by
  unfold State.countOsc3
  split
  · exact ⟨_, rfl⟩
  · exact ⟨s.draws, rfl⟩

/-- A read in the I/O region changes a device, the joystick values or the counters of draws; the audio chip is no
such device (60_exceptions.md R363). -/
theorem State.ioRead_eq (a : Word) (s : State) : ∃ v c1 c2 i dr, (s.ioRead a).2 =
    { s with vic := v, cia1 := c1, cia2 := c2, input := i, draws := dr } := by
  unfold State.ioRead
  split
  · exact ⟨_, _, _, _, _, rfl⟩
  · split
    · obtain ⟨dr, h⟩ := State.countOsc3_eq (a.extractLsb' 0 5) s
      rw [h]
      exact ⟨_, _, _, _, _, rfl⟩
    · exact ⟨_, _, _, _, _, rfl⟩
  · exact ⟨_, _, _, _, _, rfl⟩
  · simp only [State.readCia1]
    split
    · obtain ⟨dr, h⟩ := State.countJoystick_eq s.input.joy2 { s with
        cia1 := (s.cia1.read (a.extractLsb' 0 4)
          (joystickPins (s.input.joy2.sample s.draws.joystick) &&& keyRows s.cia1.portB s.input.keys)
          (joystickPins (s.input.joy1.sample s.draws.joystick) &&& keyColumns s.cia1.portA s.input.keys)).2
        input := { s.input with joy2 := s.input.joy2.settle } }
      rw [h]
      exact ⟨_, _, _, _, _, rfl⟩
    · obtain ⟨dr, h⟩ := State.countJoystick_eq s.input.joy1 { s with
        cia1 := (s.cia1.read (a.extractLsb' 0 4)
          (joystickPins (s.input.joy2.sample s.draws.joystick) &&& keyRows s.cia1.portB s.input.keys)
          (joystickPins (s.input.joy1.sample s.draws.joystick) &&& keyColumns s.cia1.portA s.input.keys)).2
        input := { s.input with joy1 := s.input.joy1.settle } }
      rw [h]
      exact ⟨_, _, _, _, _, rfl⟩
    · exact ⟨_, _, _, _, _, rfl⟩
  · exact ⟨_, _, _, _, _, rfl⟩
  · exact ⟨_, _, _, _, _, rfl⟩

/-- A read that no device answers changes nothing. -/
theorem State.busRead_pure (a : Word) (s : State) (h : s.store a ≠ .io) : (s.busRead a).2 = s := by
  unfold State.busRead
  split <;> first | rfl | contradiction

/-- A bus read changes a device, the joystick values or the counters of draws, and nothing else. -/
theorem State.busRead_eq (a : Word) (s : State) : ∃ v c1 c2 i dr, (s.busRead a).2 =
    { s with vic := v, cia1 := c1, cia2 := c2, input := i, draws := dr } := by
  by_cases h : s.store a = .io
  · simp only [State.busRead, h]
    exact State.ioRead_eq a s
  · rw [State.busRead_pure a s h]
    exact ⟨_, _, _, _, _, rfl⟩

@[simp] theorem State.busRead_cpu (a : Word) (s : State) : ((s.busRead a).2).cpu = s.cpu := by
  obtain ⟨_, _, _, _, _, h⟩ := State.busRead_eq a s; rw [h]
@[simp] theorem State.busRead_ddr (a : Word) (s : State) : ((s.busRead a).2).ddr = s.ddr := by
  obtain ⟨_, _, _, _, _, h⟩ := State.busRead_eq a s; rw [h]
@[simp] theorem State.busRead_pr (a : Word) (s : State) : ((s.busRead a).2).pr = s.pr := by
  obtain ⟨_, _, _, _, _, h⟩ := State.busRead_eq a s; rw [h]
@[simp] theorem State.busRead_ram (a : Word) (s : State) : ((s.busRead a).2).ram = s.ram := by
  obtain ⟨_, _, _, _, _, h⟩ := State.busRead_eq a s; rw [h]
@[simp] theorem State.busRead_colorRam (a : Word) (s : State) : ((s.busRead a).2).colorRam = s.colorRam := by
  obtain ⟨_, _, _, _, _, h⟩ := State.busRead_eq a s; rw [h]
@[simp] theorem State.busRead_session (a : Word) (s : State) : ((s.busRead a).2).session = s.session := by
  obtain ⟨_, _, _, _, _, h⟩ := State.busRead_eq a s; rw [h]
@[simp] theorem State.busRead_cycle (a : Word) (s : State) : ((s.busRead a).2).cycle = s.cycle := by
  obtain ⟨_, _, _, _, _, h⟩ := State.busRead_eq a s; rw [h]
@[simp] theorem State.busRead_diag (a : Word) (s : State) : ((s.busRead a).2).diag = s.diag := by
  obtain ⟨_, _, _, _, _, h⟩ := State.busRead_eq a s; rw [h]
@[simp] theorem State.busRead_params (a : Word) (s : State) : ((s.busRead a).2).params = s.params := by
  obtain ⟨_, _, _, _, _, h⟩ := State.busRead_eq a s; rw [h]
@[simp] theorem State.busRead_owed (a : Word) (s : State) : ((s.busRead a).2).owed = s.owed := by
  obtain ⟨_, _, _, _, _, h⟩ := State.busRead_eq a s; rw [h]
@[simp] theorem State.busRead_sid (a : Word) (s : State) : ((s.busRead a).2).sid = s.sid := by
  obtain ⟨_, _, _, _, _, h⟩ := State.busRead_eq a s; rw [h]
@[simp] theorem State.busRead_trace (a : Word) (s : State) : (s.busRead a).2.trace = s.trace := by
  obtain ⟨_, _, _, _, _, h⟩ := State.busRead_eq a s; rw [h]

/-- A byte of RAM. -/
theorem State.busRead_ram_value (a : Word) (s : State) (h : s.store a = .ram) :
    s.busRead a = (s.ram.read a.toNat, s) := by
  simp only [State.busRead, h]

@[simp] theorem State.log_cpu (e : BusAccess) (s : State) : (s.log e).cpu = s.cpu := rfl

@[simp] theorem memRead_cpu (a : Word) (s : State) : ((memRead a s).2).cpu = s.cpu := by
  simp [memRead]
@[simp] theorem memRead_ddr (a : Word) (s : State) : ((memRead a s).2).ddr = s.ddr := by
  simp [memRead]
@[simp] theorem memRead_pr (a : Word) (s : State) : ((memRead a s).2).pr = s.pr := by
  simp [memRead]
@[simp] theorem memRead_ram (a : Word) (s : State) : ((memRead a s).2).ram = s.ram := by
  simp [memRead]
@[simp] theorem memRead_colorRam (a : Word) (s : State) : ((memRead a s).2).colorRam = s.colorRam := by
  simp [memRead]
@[simp] theorem memRead_session (a : Word) (s : State) : ((memRead a s).2).session = s.session := by
  simp [memRead]
@[simp] theorem memRead_cycle (a : Word) (s : State) : ((memRead a s).2).cycle = s.cycle := by
  simp [memRead]
@[simp] theorem memRead_diag (a : Word) (s : State) : ((memRead a s).2).diag = s.diag := by
  simp [memRead]
@[simp] theorem memRead_params (a : Word) (s : State) : ((memRead a s).2).params = s.params := by
  simp [memRead]
@[simp] theorem memRead_owed (a : Word) (s : State) : ((memRead a s).2).owed = s.owed := by
  simp [memRead]
@[simp] theorem memRead_sid (a : Word) (s : State) : ((memRead a s).2).sid = s.sid := by
  simp [memRead]

/-- A counted read is recorded. -/
@[simp] theorem memRead_trace (a : Word) (s : State) :
    (memRead a s).2.trace = .read a (s.busRead a).1 :: s.trace := by
  simp [memRead, State.log]

@[simp] theorem memRead_value (a : Word) (s : State) : (memRead a s).1 = (s.busRead a).1 := rfl

@[simp] theorem dummyRead_cpu (a : Word) (s : State) : (dummyRead a s).cpu = s.cpu := memRead_cpu a s
@[simp] theorem dummyRead_ddr (a : Word) (s : State) : (dummyRead a s).ddr = s.ddr := memRead_ddr a s
@[simp] theorem dummyRead_pr (a : Word) (s : State) : (dummyRead a s).pr = s.pr := memRead_pr a s
@[simp] theorem dummyRead_ram (a : Word) (s : State) : (dummyRead a s).ram = s.ram := memRead_ram a s
@[simp] theorem dummyRead_colorRam (a : Word) (s : State) :
    (dummyRead a s).colorRam = s.colorRam := memRead_colorRam a s
@[simp] theorem dummyRead_session (a : Word) (s : State) : (dummyRead a s).session = s.session := memRead_session a s
@[simp] theorem dummyRead_cycle (a : Word) (s : State) : (dummyRead a s).cycle = s.cycle := memRead_cycle a s
@[simp] theorem dummyRead_diag (a : Word) (s : State) : (dummyRead a s).diag = s.diag := memRead_diag a s
@[simp] theorem dummyRead_params (a : Word) (s : State) : (dummyRead a s).params = s.params := memRead_params a s
@[simp] theorem dummyRead_owed (a : Word) (s : State) : (dummyRead a s).owed = s.owed := memRead_owed a s
@[simp] theorem dummyRead_sid (a : Word) (s : State) : (dummyRead a s).sid = s.sid := memRead_sid a s

@[simp] theorem dummyRead_trace (a : Word) (s : State) :
    (dummyRead a s).trace = .read a (s.busRead a).1 :: s.trace := memRead_trace a s

/-! ## Writes -/

/-- A write in the I/O region changes a device or the colour RAM. -/
theorem State.ioWrite_eq (a : Word) (v : Byte) (s : State) : ∃ vi c1 c2 d cr, s.ioWrite a v =
    { s with vic := vi, cia1 := c1, cia2 := c2, sid := d, colorRam := cr } := by
  unfold State.ioWrite
  split <;> exact ⟨_, _, _, _, _, rfl⟩

/-- A bus write changes the port, RAM, colour RAM or a device, and nothing else. -/
theorem State.busWrite_eq (a : Word) (v : Byte) (s : State) : ∃ dd pp r vi c1 c2 d cr, s.busWrite a v =
    { s with ddr := dd, pr := pp, ram := r, vic := vi, cia1 := c1, cia2 := c2, sid := d, colorRam := cr } := by
  unfold State.busWrite State.writeUnderRom
  split
  · exact ⟨_, _, _, _, _, _, _, _, rfl⟩
  · exact ⟨_, _, _, _, _, _, _, _, rfl⟩
  · exact ⟨_, _, _, _, _, _, _, _, rfl⟩
  · split <;> exact ⟨_, _, _, _, _, _, _, _, rfl⟩
  · split <;> exact ⟨_, _, _, _, _, _, _, _, rfl⟩
  · split <;> exact ⟨_, _, _, _, _, _, _, _, rfl⟩
  · obtain ⟨_, _, _, _, _, h⟩ := State.ioWrite_eq a v s
    rw [h]
    exact ⟨_, _, _, _, _, _, _, _, rfl⟩

@[simp] theorem State.busWrite_cpu (a : Word) (v : Byte) (s : State) : (s.busWrite a v).cpu = s.cpu := by
  obtain ⟨_, _, _, _, _, _, _, _, h⟩ := State.busWrite_eq a v s; rw [h]
@[simp] theorem State.busWrite_session (a : Word) (v : Byte) (s : State) : (s.busWrite a v).session = s.session := by
  obtain ⟨_, _, _, _, _, _, _, _, h⟩ := State.busWrite_eq a v s; rw [h]
@[simp] theorem State.busWrite_cycle (a : Word) (v : Byte) (s : State) : (s.busWrite a v).cycle = s.cycle := by
  obtain ⟨_, _, _, _, _, _, _, _, h⟩ := State.busWrite_eq a v s; rw [h]
@[simp] theorem State.busWrite_diag (a : Word) (v : Byte) (s : State) : (s.busWrite a v).diag = s.diag := by
  obtain ⟨_, _, _, _, _, _, _, _, h⟩ := State.busWrite_eq a v s; rw [h]
@[simp] theorem State.busWrite_params (a : Word) (v : Byte) (s : State) : (s.busWrite a v).params = s.params := by
  obtain ⟨_, _, _, _, _, _, _, _, h⟩ := State.busWrite_eq a v s; rw [h]
@[simp] theorem State.busWrite_owed (a : Word) (v : Byte) (s : State) : (s.busWrite a v).owed = s.owed := by
  obtain ⟨_, _, _, _, _, _, _, _, h⟩ := State.busWrite_eq a v s; rw [h]
@[simp] theorem State.busWrite_input (a : Word) (v : Byte) (s : State) : (s.busWrite a v).input = s.input := by
  obtain ⟨_, _, _, _, _, _, _, _, h⟩ := State.busWrite_eq a v s; rw [h]
@[simp] theorem State.busWrite_draws (a : Word) (v : Byte) (s : State) : (s.busWrite a v).draws = s.draws := by
  obtain ⟨_, _, _, _, _, _, _, _, h⟩ := State.busWrite_eq a v s; rw [h]
@[simp] theorem State.busWrite_trace (a : Word) (v : Byte) (s : State) : (s.busWrite a v).trace = s.trace := by
  obtain ⟨_, _, _, _, _, _, _, _, h⟩ := State.busWrite_eq a v s; rw [h]

@[simp] theorem memWrite_cpu (a : Word) (v : Byte) (s : State) : (memWrite a v s).cpu = s.cpu := by
  simp [memWrite]
@[simp] theorem memWrite_session (a : Word) (v : Byte) (s : State) : (memWrite a v s).session = s.session := by
  simp [memWrite]
@[simp] theorem memWrite_cycle (a : Word) (v : Byte) (s : State) : (memWrite a v s).cycle = s.cycle := by
  simp [memWrite]
@[simp] theorem memWrite_diag (a : Word) (v : Byte) (s : State) : (memWrite a v s).diag = s.diag := by
  simp [memWrite]
@[simp] theorem memWrite_params (a : Word) (v : Byte) (s : State) : (memWrite a v s).params = s.params := by
  simp [memWrite]
@[simp] theorem memWrite_owed (a : Word) (v : Byte) (s : State) : (memWrite a v s).owed = s.owed := by
  simp [memWrite]
@[simp] theorem memWrite_input (a : Word) (v : Byte) (s : State) : (memWrite a v s).input = s.input := by
  simp [memWrite]
@[simp] theorem memWrite_draws (a : Word) (v : Byte) (s : State) : (memWrite a v s).draws = s.draws := by
  simp [memWrite]

@[simp] theorem memWrite_trace (a : Word) (v : Byte) (s : State) :
    (memWrite a v s).trace = .write a v :: s.trace := by
  simp [memWrite, State.log]

/-- A write to a byte of RAM. -/
theorem State.busWrite_ram_value (a : Word) (v : Byte) (s : State) (h : s.store a = .ram) :
    s.busWrite a v = s.writeRam a v := by
  simp only [State.busWrite, h]

/-- Every byte of RAM but the one at the address written is kept. -/
theorem State.busWrite_ram_other (a : Word) (v : Byte) (s : State) (k : Nat) (h : k ≠ a.toNat) :
    (s.busWrite a v).ram.read k = s.ram.read k := by
  have hw : (s.writeRam a v).ram.read k = s.ram.read k := Memory.read_write_other s.ram a.toNat k v h
  unfold State.busWrite State.writeUnderRom
  split
  · rfl
  · rfl
  · exact hw
  · split
    · exact hw
    · rfl
  · split
    · exact hw
    · rfl
  · split
    · exact hw
    · rfl
  · obtain ⟨_, _, _, _, _, h⟩ := State.ioWrite_eq a v s
    rw [h]

/-- A write keeps RAM in canonical form. -/
theorem State.busWrite_ram_wf (a : Word) (v : Byte) (s : State) (h : Memory.wf s.ram = true) :
    Memory.wf (s.busWrite a v).ram = true := by
  have hw : Memory.wf (s.writeRam a v).ram = true := Memory.wf_write s.ram a.toNat v h
  unfold State.busWrite State.writeUnderRom
  split
  · exact h
  · exact h
  · exact hw
  · split <;> assumption
  · split <;> assumption
  · split <;> assumption
  · obtain ⟨_, _, _, _, _, e⟩ := State.ioWrite_eq a v s
    rw [e]
    exact h

/-- A write keeps colour RAM in canonical form. -/
theorem State.busWrite_colorRam_wf (a : Word) (v : Byte) (s : State) (h : Memory.wf s.colorRam = true) :
    Memory.wf (s.busWrite a v).colorRam = true := by
  unfold State.busWrite State.writeUnderRom
  split
  · exact h
  · exact h
  · exact h
  · split <;> exact h
  · split <;> exact h
  · split <;> exact h
  · unfold State.ioWrite
    split
    · exact h
    · exact h
    · exact Memory.wf_write s.colorRam _ _ h
    · exact h
    · exact h
    · exact h

/-- A write to the video chip keeps its register file in canonical form. -/
theorem Vic.write_regs_wf (n : BitVec 6) (b : Byte) (v : Vic) (h : Memory.wf v.regs = true) :
    Memory.wf (v.write n b).regs = true := by
  have hs : ∀ k c, Memory.wf (v.store k c).regs = true := fun k c => Memory.wf_write v.regs k c h
  unfold Vic.write
  split
  · unfold Vic.setCompare
    split <;> exact hs _ _
  · unfold Vic.setCompare
    split <;> exact h
  · exact h
  · exact h
  · exact h
  · exact h
  · split
    · exact h
    · exact hs _ _

/-! ## Which store answers (20_memory.md R80 to R82) -/

/-- Below `$A000` only the two port addresses are not RAM. -/
theorem State.store_low (s : State) (a : Word) (h2 : 2 ≤ a.toNat) (h : a.toNat < 0xA000) : s.store a = .ram := by
  have h0 : a ≠ 0x0000 := by rintro rfl; simp at h2
  have h1 : a ≠ 0x0001 := by rintro rfl; simp at h2
  have h3 : a < 0xA000 := by rw [BitVec.lt_def]; simpa using h
  rw [State.store, storeOf, if_neg h0, if_neg h1, if_pos h3]

theorem stackAddr_toNat (v : Byte) : (stackAddr v).toNat = 256 + v.toNat := by
  have hv := v.isLt
  simp only [stackAddr, wordOf, BitVec.toNat_append]
  have e : (1#8).toNat <<< 8 ||| v.toNat = 256 + v.toNat := by
    have := Nat.shiftLeft_add_eq_or_of_lt hv 1
    simpa [Nat.shiftLeft_eq] using this.symm
  exact e

/-- The stack is RAM in every bank configuration (10_state.md R22). -/
@[simp] theorem State.store_stack (s : State) (v : Byte) : s.store (stackAddr v) = .ram := by
  have hv := v.isLt
  exact State.store_low s _ (by rw [stackAddr_toNat]; omega) (by rw [stackAddr_toNat]; omega)

end Sys2Proof.Machine
end

