-- ==== Sys2Proof/Laws/Ops.lean ====
section
/-! SUPPORT. What each shared operation of the CPU does, said once: the instruction stream, the stack, the interrupt
sequence and its return, Retire, and the operand accesses. -/

namespace Sys2Proof.Machine

/-! ## Registers and flags -/

@[simp] theorem State.loadA_cpu (v : Byte) (s : State) :
    (s.loadA v).cpu = { s.cpu with a := v, p := s.cpu.p.setNZ v } := rfl
@[simp] theorem State.loadX_cpu (v : Byte) (s : State) :
    (s.loadX v).cpu = { s.cpu with x := v, p := s.cpu.p.setNZ v } := rfl
@[simp] theorem State.loadY_cpu (v : Byte) (s : State) :
    (s.loadY v).cpu = { s.cpu with y := v, p := s.cpu.p.setNZ v } := rfl
@[simp] theorem State.setAlu_cpu (o : AluResult) (s : State) :
    (s.setAlu o).cpu = { s.cpu with a := o.r, p := s.cpu.p.setAlu o } := rfl

/-! ## The instruction stream -/

/-- A fetch reads at PC once and moves PC past the byte. -/
theorem fetch8_eq (s : State) : fetch8 s = ((s.busRead s.cpu.pc).1, (memRead s.cpu.pc s).2.setPc (s.cpu.pc + 1)) := by
  simp [fetch8]

@[simp] theorem dummyPc_cpu (s : State) : (dummyPc s).cpu = s.cpu := dummyRead_cpu _ s
@[simp] theorem dummyPc_trace (s : State) :
    (dummyPc s).trace = .read s.cpu.pc (s.busRead s.cpu.pc).1 :: s.trace := dummyRead_trace _ s

/-! ## The stack -/

/-- A push stores one byte of RAM, moves S, and is one access. -/
theorem push_eq (v : Byte) (s : State) : push v s =
    ((s.writeRam (stackAddr s.cpu.s) v).log (.write (stackAddr s.cpu.s) v)).setS (s.cpu.s - 1) := by
  simp [push, memWrite, State.busWrite_ram_value]

/-- A pull moves S, reads one byte of RAM, and is one access. -/
theorem pull_eq (s : State) : pull s = (s.ram.read (stackAddr (s.cpu.s + 1)).toNat,
    (s.setS (s.cpu.s + 1)).log
      (.read (stackAddr (s.cpu.s + 1)) (s.ram.read (stackAddr (s.cpu.s + 1)).toNat))) := by
  simp [pull, memRead, State.busRead_ram_value]

/-- The dummy read of the stack only is an access. -/
theorem dummyStack_eq (s : State) : dummyStack s =
    s.log (.read (stackAddr s.cpu.s) (s.ram.read (stackAddr s.cpu.s).toNat)) := by
  simp [dummyStack, dummyRead, memRead, State.busRead_ram_value]

/-- Pulling a word moves S by two. -/
theorem pullWord_value (s : State) : (pullWord s).1 =
    wordOf (s.ram.read (stackAddr (s.cpu.s + 1 + 1)).toNat) (s.ram.read (stackAddr (s.cpu.s + 1)).toNat) := by
  simp [pullWord, pull_eq]

theorem pullWord_cpu (s : State) : (pullWord s).2.cpu = { s.cpu with s := s.cpu.s + 1 + 1 } := by
  simp [pullWord, pull_eq]
  rfl

/-- Pushing a word moves S by two and stores its high byte first. -/
theorem pushWord_cpu (w : Word) (s : State) : (pushWord w s).cpu = { s.cpu with s := s.cpu.s - 1 - 1 } := by
  simp [pushWord, push_eq]
  rfl

theorem pushWord_ram (w : Word) (s : State) : (pushWord w s).ram =
    ((s.writeRam (stackAddr s.cpu.s) (hiByte w)).writeRam (stackAddr (s.cpu.s - 1)) (loByte w)).ram := by
  simp [pushWord, push_eq]

/-! ## Retire -/

/-- `SampleNMI` writes the two NMI bits and nothing else. -/
theorem sampleNmi_eq (s : State) : ∃ a b, sampleNmi s =
    { s with cpu := { s.cpu with nmiPending := a, nmiPrev := b } } := ⟨_, _, rfl⟩

/-- `Retire` writes the two NMI bits and the interrupt latch and nothing else. -/
theorem retire_eq (s : State) : ∃ a b l, retire s =
    { s with cpu := { s.cpu with nmiPending := a, nmiPrev := b, intLatch := l } } := by
  unfold retire
  obtain ⟨a, b, h⟩ := sampleNmi_eq s
  rw [h]
  dsimp only
  split
  · exact ⟨_, _, _, rfl⟩
  · split <;> exact ⟨_, _, _, rfl⟩

/-! ## Operands -/

/-- The last part of an indexed mode: the address, and at most one dummy read. -/
theorem indexed_state (k : AccessKind) (base : Word) (index : Byte) (s : State) :
    (indexed k base index s).2 = s ∨ (indexed k base index s).2 = dummyRead (unfixed base index) s := by
  unfold indexed
  dsimp only
  split
  · exact .inl rfl
  · exact .inr rfl

theorem indexed_ea (k : AccessKind) (base : Word) (index : Byte) (s : State) :
    (indexed k base index s).1.ea = base + zext16 index := by
  unfold indexed
  dsimp only
  split <;> rfl

@[simp] theorem indexed_cpu (k : AccessKind) (base : Word) (index : Byte) (s : State) :
    (indexed k base index s).2.cpu = s.cpu := by
  rcases indexed_state k base index s with h | h <;> rw [h]
  exact dummyRead_cpu _ s
@[simp] theorem indexed_ddr (k : AccessKind) (base : Word) (index : Byte) (s : State) :
    (indexed k base index s).2.ddr = s.ddr := by
  rcases indexed_state k base index s with h | h <;> rw [h]
  exact dummyRead_ddr _ s
@[simp] theorem indexed_pr (k : AccessKind) (base : Word) (index : Byte) (s : State) :
    (indexed k base index s).2.pr = s.pr := by
  rcases indexed_state k base index s with h | h <;> rw [h]
  exact dummyRead_pr _ s
@[simp] theorem indexed_ram (k : AccessKind) (base : Word) (index : Byte) (s : State) :
    (indexed k base index s).2.ram = s.ram := by
  rcases indexed_state k base index s with h | h <;> rw [h]
  exact dummyRead_ram _ s
@[simp] theorem indexed_colorRam (k : AccessKind) (base : Word) (index : Byte) (s : State) :
    (indexed k base index s).2.colorRam = s.colorRam := by
  rcases indexed_state k base index s with h | h <;> rw [h]
  exact dummyRead_colorRam _ s
@[simp] theorem indexed_session (k : AccessKind) (base : Word) (index : Byte) (s : State) :
    (indexed k base index s).2.session = s.session := by
  rcases indexed_state k base index s with h | h <;> rw [h]
  exact dummyRead_session _ s
@[simp] theorem indexed_cycle (k : AccessKind) (base : Word) (index : Byte) (s : State) :
    (indexed k base index s).2.cycle = s.cycle := by
  rcases indexed_state k base index s with h | h <;> rw [h]
  exact dummyRead_cycle _ s
@[simp] theorem indexed_diag (k : AccessKind) (base : Word) (index : Byte) (s : State) :
    (indexed k base index s).2.diag = s.diag := by
  rcases indexed_state k base index s with h | h <;> rw [h]
  exact dummyRead_diag _ s
@[simp] theorem indexed_params (k : AccessKind) (base : Word) (index : Byte) (s : State) :
    (indexed k base index s).2.params = s.params := by
  rcases indexed_state k base index s with h | h <;> rw [h]
  exact dummyRead_params _ s
@[simp] theorem indexed_owed (k : AccessKind) (base : Word) (index : Byte) (s : State) :
    (indexed k base index s).2.owed = s.owed := by
  rcases indexed_state k base index s with h | h <;> rw [h]
  exact dummyRead_owed _ s
@[simp] theorem indexed_sid (k : AccessKind) (base : Word) (index : Byte) (s : State) :
    (indexed k base index s).2.sid = s.sid := by
  rcases indexed_state k base index s with h | h <;> rw [h]
  exact dummyRead_sid _ s
@[simp] theorem readPointer_cpu (q : Byte) (s : State) : (readPointer q s).2.cpu = s.cpu := by
  simp [readPointer]
@[simp] theorem readPointer_ddr (q : Byte) (s : State) : (readPointer q s).2.ddr = s.ddr := by
  simp [readPointer]
@[simp] theorem readPointer_pr (q : Byte) (s : State) : (readPointer q s).2.pr = s.pr := by
  simp [readPointer]
@[simp] theorem readPointer_ram (q : Byte) (s : State) : (readPointer q s).2.ram = s.ram := by
  simp [readPointer]
@[simp] theorem readPointer_colorRam (q : Byte) (s : State) : (readPointer q s).2.colorRam = s.colorRam := by
  simp [readPointer]
@[simp] theorem readPointer_session (q : Byte) (s : State) : (readPointer q s).2.session = s.session := by
  simp [readPointer]
@[simp] theorem readPointer_cycle (q : Byte) (s : State) : (readPointer q s).2.cycle = s.cycle := by
  simp [readPointer]
@[simp] theorem readPointer_diag (q : Byte) (s : State) : (readPointer q s).2.diag = s.diag := by
  simp [readPointer]
@[simp] theorem readPointer_params (q : Byte) (s : State) : (readPointer q s).2.params = s.params := by
  simp [readPointer]
@[simp] theorem readPointer_owed (q : Byte) (s : State) : (readPointer q s).2.owed = s.owed := by
  simp [readPointer]
@[simp] theorem readPointer_sid (q : Byte) (s : State) : (readPointer q s).2.sid = s.sid := by
  simp [readPointer]
/-! The address cycles of a mode keep every register and store. -/

@[simp] theorem resolve_cpu (k : AccessKind) (m : MemMode) (s : State) : (resolve k m s).2.cpu = s.cpu := by
  cases m <;> simp [resolve]
@[simp] theorem resolve_ddr (k : AccessKind) (m : MemMode) (s : State) : (resolve k m s).2.ddr = s.ddr := by
  cases m <;> simp [resolve]
@[simp] theorem resolve_pr (k : AccessKind) (m : MemMode) (s : State) : (resolve k m s).2.pr = s.pr := by
  cases m <;> simp [resolve]
@[simp] theorem resolve_ram (k : AccessKind) (m : MemMode) (s : State) : (resolve k m s).2.ram = s.ram := by
  cases m <;> simp [resolve]
@[simp] theorem resolve_colorRam (k : AccessKind) (m : MemMode) (s : State) :
    (resolve k m s).2.colorRam = s.colorRam := by
  cases m <;> simp [resolve]
@[simp] theorem resolve_session (k : AccessKind) (m : MemMode) (s : State) :
    (resolve k m s).2.session = s.session := by
  cases m <;> simp [resolve]
@[simp] theorem resolve_cycle (k : AccessKind) (m : MemMode) (s : State) : (resolve k m s).2.cycle = s.cycle := by
  cases m <;> simp [resolve]
@[simp] theorem resolve_diag (k : AccessKind) (m : MemMode) (s : State) : (resolve k m s).2.diag = s.diag := by
  cases m <;> simp [resolve]
@[simp] theorem resolve_params (k : AccessKind) (m : MemMode) (s : State) : (resolve k m s).2.params = s.params := by
  cases m <;> simp [resolve]
@[simp] theorem resolve_owed (k : AccessKind) (m : MemMode) (s : State) : (resolve k m s).2.owed = s.owed := by
  cases m <;> simp [resolve]
@[simp] theorem resolve_sid (k : AccessKind) (m : MemMode) (s : State) : (resolve k m s).2.sid = s.sid := by
  cases m <;> simp [resolve]

/-! Reading an operand keeps every register and store. -/

@[simp] theorem readOperand_cpu (o : Src) (s : State) : (readOperand o s).2.cpu = s.cpu := by
  cases o <;> simp [readOperand]
@[simp] theorem readOperand_ddr (o : Src) (s : State) : (readOperand o s).2.ddr = s.ddr := by
  cases o <;> simp [readOperand]
@[simp] theorem readOperand_pr (o : Src) (s : State) : (readOperand o s).2.pr = s.pr := by
  cases o <;> simp [readOperand]
@[simp] theorem readOperand_ram (o : Src) (s : State) : (readOperand o s).2.ram = s.ram := by
  cases o <;> simp [readOperand]
@[simp] theorem readOperand_colorRam (o : Src) (s : State) : (readOperand o s).2.colorRam = s.colorRam := by
  cases o <;> simp [readOperand]
@[simp] theorem readOperand_session (o : Src) (s : State) : (readOperand o s).2.session = s.session := by
  cases o <;> simp [readOperand]
@[simp] theorem readOperand_cycle (o : Src) (s : State) : (readOperand o s).2.cycle = s.cycle := by
  cases o <;> simp [readOperand]
@[simp] theorem readOperand_diag (o : Src) (s : State) : (readOperand o s).2.diag = s.diag := by
  cases o <;> simp [readOperand]
@[simp] theorem readOperand_params (o : Src) (s : State) : (readOperand o s).2.params = s.params := by
  cases o <;> simp [readOperand]
@[simp] theorem readOperand_owed (o : Src) (s : State) : (readOperand o s).2.owed = s.owed := by
  cases o <;> simp [readOperand]
@[simp] theorem readOperand_sid (o : Src) (s : State) : (readOperand o s).2.sid = s.sid := by
  cases o <;> simp [readOperand]

/-- Writing an operand keeps every register. -/
@[simp] theorem writeOperand_cpu (m : MemMode) (v : Byte) (s : State) : (writeOperand m v s).cpu = s.cpu := by
  simp [writeOperand]

/-- A modify writes the carry that its operation gives and no other register. -/
theorem modifyAt_cpu (ea : Word) (f : ByteOp) (s : State) : (modifyAt ea f s).2.cpu =
    { s.cpu with p := { s.cpu.p with c := (f (s.busRead ea).1 s.cpu.p.c).2 } } := by
  simp [modifyAt, State.setC, State.setP]

/-- A modify gives its operation's value and makes a read and two writes. -/
theorem modifyAt_value (ea : Word) (f : ByteOp) (s : State) :
    (modifyAt ea f s).1 = (f (s.busRead ea).1 s.cpu.p.c).1 := by
  simp [modifyAt]

/-! ## Retained by every write of the CPU -/

/-- Storing a byte of RAM keeps the canonical form. -/
theorem State.writeRam_wf (a : Word) (v : Byte) (s : State) (h : Memory.wf s.ram = true) :
    Memory.wf (s.writeRam a v).ram = true := Memory.wf_write s.ram a.toNat v h

/-- The RAM after reset is in canonical form. -/
theorem State.reset_ram_wf : Memory.wf State.reset.ram = true := rfl

/-- The colour RAM and the video chip's registers after reset are in canonical form. -/
theorem State.reset_colorRam_wf : Memory.wf State.reset.colorRam = true := rfl
theorem State.reset_vicRegs_wf : Memory.wf State.reset.vic.regs = true := rfl

end Sys2Proof.Machine
end

