-- ==== Sys2Proof/Laws/PerInstr.lean ====
section
/-! SUPPORT. A property of every instruction, one lemma a constructor: the length of an instruction's bytes is the
length its opcode byte selects (30_encoding.md R100, R104). -/

namespace Sys2Proof.Laws.EncodeLength

/-- The bytes of `i` begin with an opcode byte that selects their number. -/
def Statement (i : Instr) : Prop := ∃ op tl, encode i = op :: tl ∧ (encode i).length = opcodeLength op

theorem brk : Statement (.brk) := ⟨_, _, rfl, rfl⟩
theorem oraIzx (d : Byte) : Statement (.oraIzx d) := ⟨_, _, rfl, rfl⟩
theorem jam02 : Statement (.jam02) := ⟨_, _, rfl, rfl⟩
theorem sloIzx (d : Byte) : Statement (.sloIzx d) := ⟨_, _, rfl, rfl⟩
theorem nopZp04 (d : Byte) : Statement (.nopZp04 d) := ⟨_, _, rfl, rfl⟩
theorem oraZp (d : Byte) : Statement (.oraZp d) := ⟨_, _, rfl, rfl⟩
theorem aslZp (d : Byte) : Statement (.aslZp d) := ⟨_, _, rfl, rfl⟩
theorem sloZp (d : Byte) : Statement (.sloZp d) := ⟨_, _, rfl, rfl⟩
theorem php : Statement (.php) := ⟨_, _, rfl, rfl⟩
theorem oraImm (d : Byte) : Statement (.oraImm d) := ⟨_, _, rfl, rfl⟩
theorem aslAcc : Statement (.aslAcc) := ⟨_, _, rfl, rfl⟩
theorem ancImm0B (d : Byte) : Statement (.ancImm0B d) := ⟨_, _, rfl, rfl⟩
theorem nopAbs0C (w : Word) : Statement (.nopAbs0C w) := ⟨_, _, rfl, rfl⟩
theorem oraAbs (w : Word) : Statement (.oraAbs w) := ⟨_, _, rfl, rfl⟩
theorem aslAbs (w : Word) : Statement (.aslAbs w) := ⟨_, _, rfl, rfl⟩
theorem sloAbs (w : Word) : Statement (.sloAbs w) := ⟨_, _, rfl, rfl⟩
theorem bpl (d : Byte) : Statement (.bpl d) := ⟨_, _, rfl, rfl⟩
theorem oraIzy (d : Byte) : Statement (.oraIzy d) := ⟨_, _, rfl, rfl⟩
theorem jam12 : Statement (.jam12) := ⟨_, _, rfl, rfl⟩
theorem sloIzy (d : Byte) : Statement (.sloIzy d) := ⟨_, _, rfl, rfl⟩
theorem nopZpx14 (d : Byte) : Statement (.nopZpx14 d) := ⟨_, _, rfl, rfl⟩
theorem oraZpx (d : Byte) : Statement (.oraZpx d) := ⟨_, _, rfl, rfl⟩
theorem aslZpx (d : Byte) : Statement (.aslZpx d) := ⟨_, _, rfl, rfl⟩
theorem sloZpx (d : Byte) : Statement (.sloZpx d) := ⟨_, _, rfl, rfl⟩
theorem clc : Statement (.clc) := ⟨_, _, rfl, rfl⟩
theorem oraAby (w : Word) : Statement (.oraAby w) := ⟨_, _, rfl, rfl⟩
theorem nopImp1A : Statement (.nopImp1A) := ⟨_, _, rfl, rfl⟩
theorem sloAby (w : Word) : Statement (.sloAby w) := ⟨_, _, rfl, rfl⟩
theorem nopAbx1C (w : Word) : Statement (.nopAbx1C w) := ⟨_, _, rfl, rfl⟩
theorem oraAbx (w : Word) : Statement (.oraAbx w) := ⟨_, _, rfl, rfl⟩
theorem aslAbx (w : Word) : Statement (.aslAbx w) := ⟨_, _, rfl, rfl⟩
theorem sloAbx (w : Word) : Statement (.sloAbx w) := ⟨_, _, rfl, rfl⟩
theorem jsr (w : Word) : Statement (.jsr w) := ⟨_, _, rfl, rfl⟩
theorem andIzx (d : Byte) : Statement (.andIzx d) := ⟨_, _, rfl, rfl⟩
theorem jam22 : Statement (.jam22) := ⟨_, _, rfl, rfl⟩
theorem rlaIzx (d : Byte) : Statement (.rlaIzx d) := ⟨_, _, rfl, rfl⟩
theorem bitZp (d : Byte) : Statement (.bitZp d) := ⟨_, _, rfl, rfl⟩
theorem andZp (d : Byte) : Statement (.andZp d) := ⟨_, _, rfl, rfl⟩
theorem rolZp (d : Byte) : Statement (.rolZp d) := ⟨_, _, rfl, rfl⟩
theorem rlaZp (d : Byte) : Statement (.rlaZp d) := ⟨_, _, rfl, rfl⟩
theorem plp : Statement (.plp) := ⟨_, _, rfl, rfl⟩
theorem andImm (d : Byte) : Statement (.andImm d) := ⟨_, _, rfl, rfl⟩
theorem rolAcc : Statement (.rolAcc) := ⟨_, _, rfl, rfl⟩
theorem ancImm2B (d : Byte) : Statement (.ancImm2B d) := ⟨_, _, rfl, rfl⟩
theorem bitAbs (w : Word) : Statement (.bitAbs w) := ⟨_, _, rfl, rfl⟩
theorem andAbs (w : Word) : Statement (.andAbs w) := ⟨_, _, rfl, rfl⟩
theorem rolAbs (w : Word) : Statement (.rolAbs w) := ⟨_, _, rfl, rfl⟩
theorem rlaAbs (w : Word) : Statement (.rlaAbs w) := ⟨_, _, rfl, rfl⟩
theorem bmi (d : Byte) : Statement (.bmi d) := ⟨_, _, rfl, rfl⟩
theorem andIzy (d : Byte) : Statement (.andIzy d) := ⟨_, _, rfl, rfl⟩
theorem jam32 : Statement (.jam32) := ⟨_, _, rfl, rfl⟩
theorem rlaIzy (d : Byte) : Statement (.rlaIzy d) := ⟨_, _, rfl, rfl⟩
theorem nopZpx34 (d : Byte) : Statement (.nopZpx34 d) := ⟨_, _, rfl, rfl⟩
theorem andZpx (d : Byte) : Statement (.andZpx d) := ⟨_, _, rfl, rfl⟩
theorem rolZpx (d : Byte) : Statement (.rolZpx d) := ⟨_, _, rfl, rfl⟩
theorem rlaZpx (d : Byte) : Statement (.rlaZpx d) := ⟨_, _, rfl, rfl⟩
theorem sec : Statement (.sec) := ⟨_, _, rfl, rfl⟩
theorem andAby (w : Word) : Statement (.andAby w) := ⟨_, _, rfl, rfl⟩
theorem nopImp3A : Statement (.nopImp3A) := ⟨_, _, rfl, rfl⟩
theorem rlaAby (w : Word) : Statement (.rlaAby w) := ⟨_, _, rfl, rfl⟩
theorem nopAbx3C (w : Word) : Statement (.nopAbx3C w) := ⟨_, _, rfl, rfl⟩
theorem andAbx (w : Word) : Statement (.andAbx w) := ⟨_, _, rfl, rfl⟩
theorem rolAbx (w : Word) : Statement (.rolAbx w) := ⟨_, _, rfl, rfl⟩
theorem rlaAbx (w : Word) : Statement (.rlaAbx w) := ⟨_, _, rfl, rfl⟩
theorem rti : Statement (.rti) := ⟨_, _, rfl, rfl⟩
theorem eorIzx (d : Byte) : Statement (.eorIzx d) := ⟨_, _, rfl, rfl⟩
theorem jam42 : Statement (.jam42) := ⟨_, _, rfl, rfl⟩
theorem sreIzx (d : Byte) : Statement (.sreIzx d) := ⟨_, _, rfl, rfl⟩
theorem nopZp44 (d : Byte) : Statement (.nopZp44 d) := ⟨_, _, rfl, rfl⟩
theorem eorZp (d : Byte) : Statement (.eorZp d) := ⟨_, _, rfl, rfl⟩
theorem lsrZp (d : Byte) : Statement (.lsrZp d) := ⟨_, _, rfl, rfl⟩
theorem sreZp (d : Byte) : Statement (.sreZp d) := ⟨_, _, rfl, rfl⟩
theorem pha : Statement (.pha) := ⟨_, _, rfl, rfl⟩
theorem eorImm (d : Byte) : Statement (.eorImm d) := ⟨_, _, rfl, rfl⟩
theorem lsrAcc : Statement (.lsrAcc) := ⟨_, _, rfl, rfl⟩
theorem alrImm (d : Byte) : Statement (.alrImm d) := ⟨_, _, rfl, rfl⟩
theorem jmpAbs (w : Word) : Statement (.jmpAbs w) := ⟨_, _, rfl, rfl⟩
theorem eorAbs (w : Word) : Statement (.eorAbs w) := ⟨_, _, rfl, rfl⟩
theorem lsrAbs (w : Word) : Statement (.lsrAbs w) := ⟨_, _, rfl, rfl⟩
theorem sreAbs (w : Word) : Statement (.sreAbs w) := ⟨_, _, rfl, rfl⟩
theorem bvc (d : Byte) : Statement (.bvc d) := ⟨_, _, rfl, rfl⟩
theorem eorIzy (d : Byte) : Statement (.eorIzy d) := ⟨_, _, rfl, rfl⟩
theorem jam52 : Statement (.jam52) := ⟨_, _, rfl, rfl⟩
theorem sreIzy (d : Byte) : Statement (.sreIzy d) := ⟨_, _, rfl, rfl⟩
theorem nopZpx54 (d : Byte) : Statement (.nopZpx54 d) := ⟨_, _, rfl, rfl⟩
theorem eorZpx (d : Byte) : Statement (.eorZpx d) := ⟨_, _, rfl, rfl⟩
theorem lsrZpx (d : Byte) : Statement (.lsrZpx d) := ⟨_, _, rfl, rfl⟩
theorem sreZpx (d : Byte) : Statement (.sreZpx d) := ⟨_, _, rfl, rfl⟩
theorem cli : Statement (.cli) := ⟨_, _, rfl, rfl⟩
theorem eorAby (w : Word) : Statement (.eorAby w) := ⟨_, _, rfl, rfl⟩
theorem nopImp5A : Statement (.nopImp5A) := ⟨_, _, rfl, rfl⟩
theorem sreAby (w : Word) : Statement (.sreAby w) := ⟨_, _, rfl, rfl⟩
theorem nopAbx5C (w : Word) : Statement (.nopAbx5C w) := ⟨_, _, rfl, rfl⟩
theorem eorAbx (w : Word) : Statement (.eorAbx w) := ⟨_, _, rfl, rfl⟩
theorem lsrAbx (w : Word) : Statement (.lsrAbx w) := ⟨_, _, rfl, rfl⟩
theorem sreAbx (w : Word) : Statement (.sreAbx w) := ⟨_, _, rfl, rfl⟩
theorem rts : Statement (.rts) := ⟨_, _, rfl, rfl⟩
theorem adcIzx (d : Byte) : Statement (.adcIzx d) := ⟨_, _, rfl, rfl⟩
theorem jam62 : Statement (.jam62) := ⟨_, _, rfl, rfl⟩
theorem rraIzx (d : Byte) : Statement (.rraIzx d) := ⟨_, _, rfl, rfl⟩
theorem nopZp64 (d : Byte) : Statement (.nopZp64 d) := ⟨_, _, rfl, rfl⟩
theorem adcZp (d : Byte) : Statement (.adcZp d) := ⟨_, _, rfl, rfl⟩
theorem rorZp (d : Byte) : Statement (.rorZp d) := ⟨_, _, rfl, rfl⟩
theorem rraZp (d : Byte) : Statement (.rraZp d) := ⟨_, _, rfl, rfl⟩
theorem pla : Statement (.pla) := ⟨_, _, rfl, rfl⟩
theorem adcImm (d : Byte) : Statement (.adcImm d) := ⟨_, _, rfl, rfl⟩
theorem rorAcc : Statement (.rorAcc) := ⟨_, _, rfl, rfl⟩
theorem arrImm (d : Byte) : Statement (.arrImm d) := ⟨_, _, rfl, rfl⟩
theorem jmpInd (w : Word) : Statement (.jmpInd w) := ⟨_, _, rfl, rfl⟩
theorem adcAbs (w : Word) : Statement (.adcAbs w) := ⟨_, _, rfl, rfl⟩
theorem rorAbs (w : Word) : Statement (.rorAbs w) := ⟨_, _, rfl, rfl⟩
theorem rraAbs (w : Word) : Statement (.rraAbs w) := ⟨_, _, rfl, rfl⟩
theorem bvs (d : Byte) : Statement (.bvs d) := ⟨_, _, rfl, rfl⟩
theorem adcIzy (d : Byte) : Statement (.adcIzy d) := ⟨_, _, rfl, rfl⟩
theorem jam72 : Statement (.jam72) := ⟨_, _, rfl, rfl⟩
theorem rraIzy (d : Byte) : Statement (.rraIzy d) := ⟨_, _, rfl, rfl⟩
theorem nopZpx74 (d : Byte) : Statement (.nopZpx74 d) := ⟨_, _, rfl, rfl⟩
theorem adcZpx (d : Byte) : Statement (.adcZpx d) := ⟨_, _, rfl, rfl⟩
theorem rorZpx (d : Byte) : Statement (.rorZpx d) := ⟨_, _, rfl, rfl⟩
theorem rraZpx (d : Byte) : Statement (.rraZpx d) := ⟨_, _, rfl, rfl⟩
theorem sei : Statement (.sei) := ⟨_, _, rfl, rfl⟩
theorem adcAby (w : Word) : Statement (.adcAby w) := ⟨_, _, rfl, rfl⟩
theorem nopImp7A : Statement (.nopImp7A) := ⟨_, _, rfl, rfl⟩
theorem rraAby (w : Word) : Statement (.rraAby w) := ⟨_, _, rfl, rfl⟩
theorem nopAbx7C (w : Word) : Statement (.nopAbx7C w) := ⟨_, _, rfl, rfl⟩
theorem adcAbx (w : Word) : Statement (.adcAbx w) := ⟨_, _, rfl, rfl⟩
theorem rorAbx (w : Word) : Statement (.rorAbx w) := ⟨_, _, rfl, rfl⟩
theorem rraAbx (w : Word) : Statement (.rraAbx w) := ⟨_, _, rfl, rfl⟩
theorem nopImm80 (d : Byte) : Statement (.nopImm80 d) := ⟨_, _, rfl, rfl⟩
theorem staIzx (d : Byte) : Statement (.staIzx d) := ⟨_, _, rfl, rfl⟩
theorem nopImm82 (d : Byte) : Statement (.nopImm82 d) := ⟨_, _, rfl, rfl⟩
theorem saxIzx (d : Byte) : Statement (.saxIzx d) := ⟨_, _, rfl, rfl⟩
theorem styZp (d : Byte) : Statement (.styZp d) := ⟨_, _, rfl, rfl⟩
theorem staZp (d : Byte) : Statement (.staZp d) := ⟨_, _, rfl, rfl⟩
theorem stxZp (d : Byte) : Statement (.stxZp d) := ⟨_, _, rfl, rfl⟩
theorem saxZp (d : Byte) : Statement (.saxZp d) := ⟨_, _, rfl, rfl⟩
theorem dey : Statement (.dey) := ⟨_, _, rfl, rfl⟩
theorem nopImm89 (d : Byte) : Statement (.nopImm89 d) := ⟨_, _, rfl, rfl⟩
theorem txa : Statement (.txa) := ⟨_, _, rfl, rfl⟩
theorem aneImm (d : Byte) : Statement (.aneImm d) := ⟨_, _, rfl, rfl⟩
theorem styAbs (w : Word) : Statement (.styAbs w) := ⟨_, _, rfl, rfl⟩
theorem staAbs (w : Word) : Statement (.staAbs w) := ⟨_, _, rfl, rfl⟩
theorem stxAbs (w : Word) : Statement (.stxAbs w) := ⟨_, _, rfl, rfl⟩
theorem saxAbs (w : Word) : Statement (.saxAbs w) := ⟨_, _, rfl, rfl⟩
theorem bcc (d : Byte) : Statement (.bcc d) := ⟨_, _, rfl, rfl⟩
theorem staIzy (d : Byte) : Statement (.staIzy d) := ⟨_, _, rfl, rfl⟩
theorem jam92 : Statement (.jam92) := ⟨_, _, rfl, rfl⟩
theorem shaIzy (d : Byte) : Statement (.shaIzy d) := ⟨_, _, rfl, rfl⟩
theorem styZpx (d : Byte) : Statement (.styZpx d) := ⟨_, _, rfl, rfl⟩
theorem staZpx (d : Byte) : Statement (.staZpx d) := ⟨_, _, rfl, rfl⟩
theorem stxZpy (d : Byte) : Statement (.stxZpy d) := ⟨_, _, rfl, rfl⟩
theorem saxZpy (d : Byte) : Statement (.saxZpy d) := ⟨_, _, rfl, rfl⟩
theorem tya : Statement (.tya) := ⟨_, _, rfl, rfl⟩
theorem staAby (w : Word) : Statement (.staAby w) := ⟨_, _, rfl, rfl⟩
theorem txs : Statement (.txs) := ⟨_, _, rfl, rfl⟩
theorem tasAby (w : Word) : Statement (.tasAby w) := ⟨_, _, rfl, rfl⟩
theorem shyAbx (w : Word) : Statement (.shyAbx w) := ⟨_, _, rfl, rfl⟩
theorem staAbx (w : Word) : Statement (.staAbx w) := ⟨_, _, rfl, rfl⟩
theorem shxAby (w : Word) : Statement (.shxAby w) := ⟨_, _, rfl, rfl⟩
theorem shaAby (w : Word) : Statement (.shaAby w) := ⟨_, _, rfl, rfl⟩
theorem ldyImm (d : Byte) : Statement (.ldyImm d) := ⟨_, _, rfl, rfl⟩
theorem ldaIzx (d : Byte) : Statement (.ldaIzx d) := ⟨_, _, rfl, rfl⟩
theorem ldxImm (d : Byte) : Statement (.ldxImm d) := ⟨_, _, rfl, rfl⟩
theorem laxIzx (d : Byte) : Statement (.laxIzx d) := ⟨_, _, rfl, rfl⟩
theorem ldyZp (d : Byte) : Statement (.ldyZp d) := ⟨_, _, rfl, rfl⟩
theorem ldaZp (d : Byte) : Statement (.ldaZp d) := ⟨_, _, rfl, rfl⟩
theorem ldxZp (d : Byte) : Statement (.ldxZp d) := ⟨_, _, rfl, rfl⟩
theorem laxZp (d : Byte) : Statement (.laxZp d) := ⟨_, _, rfl, rfl⟩
theorem tay : Statement (.tay) := ⟨_, _, rfl, rfl⟩
theorem ldaImm (d : Byte) : Statement (.ldaImm d) := ⟨_, _, rfl, rfl⟩
theorem tax : Statement (.tax) := ⟨_, _, rfl, rfl⟩
theorem lxaImm (d : Byte) : Statement (.lxaImm d) := ⟨_, _, rfl, rfl⟩
theorem ldyAbs (w : Word) : Statement (.ldyAbs w) := ⟨_, _, rfl, rfl⟩
theorem ldaAbs (w : Word) : Statement (.ldaAbs w) := ⟨_, _, rfl, rfl⟩
theorem ldxAbs (w : Word) : Statement (.ldxAbs w) := ⟨_, _, rfl, rfl⟩
theorem laxAbs (w : Word) : Statement (.laxAbs w) := ⟨_, _, rfl, rfl⟩
theorem bcs (d : Byte) : Statement (.bcs d) := ⟨_, _, rfl, rfl⟩
theorem ldaIzy (d : Byte) : Statement (.ldaIzy d) := ⟨_, _, rfl, rfl⟩
theorem jamB2 : Statement (.jamB2) := ⟨_, _, rfl, rfl⟩
theorem laxIzy (d : Byte) : Statement (.laxIzy d) := ⟨_, _, rfl, rfl⟩
theorem ldyZpx (d : Byte) : Statement (.ldyZpx d) := ⟨_, _, rfl, rfl⟩
theorem ldaZpx (d : Byte) : Statement (.ldaZpx d) := ⟨_, _, rfl, rfl⟩
theorem ldxZpy (d : Byte) : Statement (.ldxZpy d) := ⟨_, _, rfl, rfl⟩
theorem laxZpy (d : Byte) : Statement (.laxZpy d) := ⟨_, _, rfl, rfl⟩
theorem clv : Statement (.clv) := ⟨_, _, rfl, rfl⟩
theorem ldaAby (w : Word) : Statement (.ldaAby w) := ⟨_, _, rfl, rfl⟩
theorem tsx : Statement (.tsx) := ⟨_, _, rfl, rfl⟩
theorem lasAby (w : Word) : Statement (.lasAby w) := ⟨_, _, rfl, rfl⟩
theorem ldyAbx (w : Word) : Statement (.ldyAbx w) := ⟨_, _, rfl, rfl⟩
theorem ldaAbx (w : Word) : Statement (.ldaAbx w) := ⟨_, _, rfl, rfl⟩
theorem ldxAby (w : Word) : Statement (.ldxAby w) := ⟨_, _, rfl, rfl⟩
theorem laxAby (w : Word) : Statement (.laxAby w) := ⟨_, _, rfl, rfl⟩
theorem cpyImm (d : Byte) : Statement (.cpyImm d) := ⟨_, _, rfl, rfl⟩
theorem cmpIzx (d : Byte) : Statement (.cmpIzx d) := ⟨_, _, rfl, rfl⟩
theorem nopImmC2 (d : Byte) : Statement (.nopImmC2 d) := ⟨_, _, rfl, rfl⟩
theorem dcpIzx (d : Byte) : Statement (.dcpIzx d) := ⟨_, _, rfl, rfl⟩
theorem cpyZp (d : Byte) : Statement (.cpyZp d) := ⟨_, _, rfl, rfl⟩
theorem cmpZp (d : Byte) : Statement (.cmpZp d) := ⟨_, _, rfl, rfl⟩
theorem decZp (d : Byte) : Statement (.decZp d) := ⟨_, _, rfl, rfl⟩
theorem dcpZp (d : Byte) : Statement (.dcpZp d) := ⟨_, _, rfl, rfl⟩
theorem iny : Statement (.iny) := ⟨_, _, rfl, rfl⟩
theorem cmpImm (d : Byte) : Statement (.cmpImm d) := ⟨_, _, rfl, rfl⟩
theorem dex : Statement (.dex) := ⟨_, _, rfl, rfl⟩
theorem sbxImm (d : Byte) : Statement (.sbxImm d) := ⟨_, _, rfl, rfl⟩
theorem cpyAbs (w : Word) : Statement (.cpyAbs w) := ⟨_, _, rfl, rfl⟩
theorem cmpAbs (w : Word) : Statement (.cmpAbs w) := ⟨_, _, rfl, rfl⟩
theorem decAbs (w : Word) : Statement (.decAbs w) := ⟨_, _, rfl, rfl⟩
theorem dcpAbs (w : Word) : Statement (.dcpAbs w) := ⟨_, _, rfl, rfl⟩
theorem bne (d : Byte) : Statement (.bne d) := ⟨_, _, rfl, rfl⟩
theorem cmpIzy (d : Byte) : Statement (.cmpIzy d) := ⟨_, _, rfl, rfl⟩
theorem jamD2 : Statement (.jamD2) := ⟨_, _, rfl, rfl⟩
theorem dcpIzy (d : Byte) : Statement (.dcpIzy d) := ⟨_, _, rfl, rfl⟩
theorem nopZpxD4 (d : Byte) : Statement (.nopZpxD4 d) := ⟨_, _, rfl, rfl⟩
theorem cmpZpx (d : Byte) : Statement (.cmpZpx d) := ⟨_, _, rfl, rfl⟩
theorem decZpx (d : Byte) : Statement (.decZpx d) := ⟨_, _, rfl, rfl⟩
theorem dcpZpx (d : Byte) : Statement (.dcpZpx d) := ⟨_, _, rfl, rfl⟩
theorem cld : Statement (.cld) := ⟨_, _, rfl, rfl⟩
theorem cmpAby (w : Word) : Statement (.cmpAby w) := ⟨_, _, rfl, rfl⟩
theorem nopImpDA : Statement (.nopImpDA) := ⟨_, _, rfl, rfl⟩
theorem dcpAby (w : Word) : Statement (.dcpAby w) := ⟨_, _, rfl, rfl⟩
theorem nopAbxDC (w : Word) : Statement (.nopAbxDC w) := ⟨_, _, rfl, rfl⟩
theorem cmpAbx (w : Word) : Statement (.cmpAbx w) := ⟨_, _, rfl, rfl⟩
theorem decAbx (w : Word) : Statement (.decAbx w) := ⟨_, _, rfl, rfl⟩
theorem dcpAbx (w : Word) : Statement (.dcpAbx w) := ⟨_, _, rfl, rfl⟩
theorem cpxImm (d : Byte) : Statement (.cpxImm d) := ⟨_, _, rfl, rfl⟩
theorem sbcIzx (d : Byte) : Statement (.sbcIzx d) := ⟨_, _, rfl, rfl⟩
theorem nopImmE2 (d : Byte) : Statement (.nopImmE2 d) := ⟨_, _, rfl, rfl⟩
theorem iscIzx (d : Byte) : Statement (.iscIzx d) := ⟨_, _, rfl, rfl⟩
theorem cpxZp (d : Byte) : Statement (.cpxZp d) := ⟨_, _, rfl, rfl⟩
theorem sbcZp (d : Byte) : Statement (.sbcZp d) := ⟨_, _, rfl, rfl⟩
theorem incZp (d : Byte) : Statement (.incZp d) := ⟨_, _, rfl, rfl⟩
theorem iscZp (d : Byte) : Statement (.iscZp d) := ⟨_, _, rfl, rfl⟩
theorem inx : Statement (.inx) := ⟨_, _, rfl, rfl⟩
theorem sbcImm (d : Byte) : Statement (.sbcImm d) := ⟨_, _, rfl, rfl⟩
theorem nop : Statement (.nop) := ⟨_, _, rfl, rfl⟩
theorem sbcImmEB (d : Byte) : Statement (.sbcImmEB d) := ⟨_, _, rfl, rfl⟩
theorem cpxAbs (w : Word) : Statement (.cpxAbs w) := ⟨_, _, rfl, rfl⟩
theorem sbcAbs (w : Word) : Statement (.sbcAbs w) := ⟨_, _, rfl, rfl⟩
theorem incAbs (w : Word) : Statement (.incAbs w) := ⟨_, _, rfl, rfl⟩
theorem iscAbs (w : Word) : Statement (.iscAbs w) := ⟨_, _, rfl, rfl⟩
theorem beq (d : Byte) : Statement (.beq d) := ⟨_, _, rfl, rfl⟩
theorem sbcIzy (d : Byte) : Statement (.sbcIzy d) := ⟨_, _, rfl, rfl⟩
theorem jamF2 : Statement (.jamF2) := ⟨_, _, rfl, rfl⟩
theorem iscIzy (d : Byte) : Statement (.iscIzy d) := ⟨_, _, rfl, rfl⟩
theorem nopZpxF4 (d : Byte) : Statement (.nopZpxF4 d) := ⟨_, _, rfl, rfl⟩
theorem sbcZpx (d : Byte) : Statement (.sbcZpx d) := ⟨_, _, rfl, rfl⟩
theorem incZpx (d : Byte) : Statement (.incZpx d) := ⟨_, _, rfl, rfl⟩
theorem iscZpx (d : Byte) : Statement (.iscZpx d) := ⟨_, _, rfl, rfl⟩
theorem sed : Statement (.sed) := ⟨_, _, rfl, rfl⟩
theorem sbcAby (w : Word) : Statement (.sbcAby w) := ⟨_, _, rfl, rfl⟩
theorem nopImpFA : Statement (.nopImpFA) := ⟨_, _, rfl, rfl⟩
theorem iscAby (w : Word) : Statement (.iscAby w) := ⟨_, _, rfl, rfl⟩
theorem nopAbxFC (w : Word) : Statement (.nopAbxFC w) := ⟨_, _, rfl, rfl⟩
theorem sbcAbx (w : Word) : Statement (.sbcAbx w) := ⟨_, _, rfl, rfl⟩
theorem incAbx (w : Word) : Statement (.incAbx w) := ⟨_, _, rfl, rfl⟩
theorem iscAbx (w : Word) : Statement (.iscAbx w) := ⟨_, _, rfl, rfl⟩

end Sys2Proof.Laws.EncodeLength
end

