-- ==== Sys2Proof/Tests/Slice0.lean ====
section
/-! SUPPORT. Tests: each expected result is taken from spec/, named in the comment above it. Then one witness for
every statement with hypotheses. -/

namespace Sys2Proof.Tests

open Sys2Proof.Machine

/-! ## Well-formedness: what the check refuses (30_encoding.md R100) -/

theorem test_no_bytes_are_no_instruction : isOneInstruction [] = false := by decide
theorem test_a_cut_instruction_is_refused : isOneInstruction [0xA9] = false := by decide
theorem test_a_left_over_byte_is_refused : isOneInstruction [0xEA, 0xEA] = false := by decide
theorem test_one_instruction_is_accepted : isOneInstruction [0xBD, 0x00, 0x10] = true := by decide
theorem test_decode_of_nothing_is_rejected_by_name : decode [] = .error .noOpcode := by decide
theorem test_decode_of_a_cut_lda_is_rejected_by_name : decode [0xAD, 0x34] = .error (.truncated 0xAD) := by decide

/-! ## Decoding: words written out from the opcode map and the operand layouts (30_encoding.md R101, R121); the
operand bytes are `$34` and `$12` -/

/-- The instruction, when the bytes are exactly one. -/
def wholeInstruction (bs : List Byte) : Option Instr :=
  match decode bs with
  | .ok (i, []) => some i
  | .ok (_, _ :: _) => none
  | .error _ => none

theorem test_decode_row_0 :
    [[0x00], [0x01, 0x34], [0x02], [0x03, 0x34], [0x04, 0x34], [0x05, 0x34], [0x06, 0x34], [0x07, 0x34], [0x08],
       [0x09, 0x34], [0x0A], [0x0B, 0x34], [0x0C, 0x34, 0x12], [0x0D, 0x34, 0x12], [0x0E, 0x34, 0x12], [0x0F, 0x34,
       0x12]].map wholeInstruction =
    [.brk, .oraIzx 0x34, .jam02, .sloIzx 0x34, .nopZp04 0x34, .oraZp 0x34, .aslZp 0x34, .sloZp 0x34, .php,
       .oraImm 0x34, .aslAcc, .ancImm0B 0x34, .nopAbs0C 0x1234, .oraAbs 0x1234, .aslAbs 0x1234,
       .sloAbs 0x1234].map some := by decide

theorem test_decode_row_1 :
    [[0x10, 0x34], [0x11, 0x34], [0x12], [0x13, 0x34], [0x14, 0x34], [0x15, 0x34], [0x16, 0x34], [0x17, 0x34],
       [0x18], [0x19, 0x34, 0x12], [0x1A], [0x1B, 0x34, 0x12], [0x1C, 0x34, 0x12], [0x1D, 0x34, 0x12], [0x1E, 0x34,
       0x12], [0x1F, 0x34, 0x12]].map wholeInstruction =
    [.bpl 0x34, .oraIzy 0x34, .jam12, .sloIzy 0x34, .nopZpx14 0x34, .oraZpx 0x34, .aslZpx 0x34, .sloZpx 0x34, .clc,
       .oraAby 0x1234, .nopImp1A, .sloAby 0x1234, .nopAbx1C 0x1234, .oraAbx 0x1234, .aslAbx 0x1234,
       .sloAbx 0x1234].map some := by decide

theorem test_decode_row_2 :
    [[0x20, 0x34, 0x12], [0x21, 0x34], [0x22], [0x23, 0x34], [0x24, 0x34], [0x25, 0x34], [0x26, 0x34], [0x27,
       0x34], [0x28], [0x29, 0x34], [0x2A], [0x2B, 0x34], [0x2C, 0x34, 0x12], [0x2D, 0x34, 0x12], [0x2E, 0x34,
       0x12], [0x2F, 0x34, 0x12]].map wholeInstruction =
    [.jsr 0x1234, .andIzx 0x34, .jam22, .rlaIzx 0x34, .bitZp 0x34, .andZp 0x34, .rolZp 0x34, .rlaZp 0x34, .plp,
       .andImm 0x34, .rolAcc, .ancImm2B 0x34, .bitAbs 0x1234, .andAbs 0x1234, .rolAbs 0x1234,
       .rlaAbs 0x1234].map some := by decide

theorem test_decode_row_3 :
    [[0x30, 0x34], [0x31, 0x34], [0x32], [0x33, 0x34], [0x34, 0x34], [0x35, 0x34], [0x36, 0x34], [0x37, 0x34],
       [0x38], [0x39, 0x34, 0x12], [0x3A], [0x3B, 0x34, 0x12], [0x3C, 0x34, 0x12], [0x3D, 0x34, 0x12], [0x3E, 0x34,
       0x12], [0x3F, 0x34, 0x12]].map wholeInstruction =
    [.bmi 0x34, .andIzy 0x34, .jam32, .rlaIzy 0x34, .nopZpx34 0x34, .andZpx 0x34, .rolZpx 0x34, .rlaZpx 0x34, .sec,
       .andAby 0x1234, .nopImp3A, .rlaAby 0x1234, .nopAbx3C 0x1234, .andAbx 0x1234, .rolAbx 0x1234,
       .rlaAbx 0x1234].map some := by decide

theorem test_decode_row_4 :
    [[0x40], [0x41, 0x34], [0x42], [0x43, 0x34], [0x44, 0x34], [0x45, 0x34], [0x46, 0x34], [0x47, 0x34], [0x48],
       [0x49, 0x34], [0x4A], [0x4B, 0x34], [0x4C, 0x34, 0x12], [0x4D, 0x34, 0x12], [0x4E, 0x34, 0x12], [0x4F, 0x34,
       0x12]].map wholeInstruction =
    [.rti, .eorIzx 0x34, .jam42, .sreIzx 0x34, .nopZp44 0x34, .eorZp 0x34, .lsrZp 0x34, .sreZp 0x34, .pha,
       .eorImm 0x34, .lsrAcc, .alrImm 0x34, .jmpAbs 0x1234, .eorAbs 0x1234, .lsrAbs 0x1234,
       .sreAbs 0x1234].map some := by decide

theorem test_decode_row_5 :
    [[0x50, 0x34], [0x51, 0x34], [0x52], [0x53, 0x34], [0x54, 0x34], [0x55, 0x34], [0x56, 0x34], [0x57, 0x34],
       [0x58], [0x59, 0x34, 0x12], [0x5A], [0x5B, 0x34, 0x12], [0x5C, 0x34, 0x12], [0x5D, 0x34, 0x12], [0x5E, 0x34,
       0x12], [0x5F, 0x34, 0x12]].map wholeInstruction =
    [.bvc 0x34, .eorIzy 0x34, .jam52, .sreIzy 0x34, .nopZpx54 0x34, .eorZpx 0x34, .lsrZpx 0x34, .sreZpx 0x34, .cli,
       .eorAby 0x1234, .nopImp5A, .sreAby 0x1234, .nopAbx5C 0x1234, .eorAbx 0x1234, .lsrAbx 0x1234,
       .sreAbx 0x1234].map some := by decide

theorem test_decode_row_6 :
    [[0x60], [0x61, 0x34], [0x62], [0x63, 0x34], [0x64, 0x34], [0x65, 0x34], [0x66, 0x34], [0x67, 0x34], [0x68],
       [0x69, 0x34], [0x6A], [0x6B, 0x34], [0x6C, 0x34, 0x12], [0x6D, 0x34, 0x12], [0x6E, 0x34, 0x12], [0x6F, 0x34,
       0x12]].map wholeInstruction =
    [.rts, .adcIzx 0x34, .jam62, .rraIzx 0x34, .nopZp64 0x34, .adcZp 0x34, .rorZp 0x34, .rraZp 0x34, .pla,
       .adcImm 0x34, .rorAcc, .arrImm 0x34, .jmpInd 0x1234, .adcAbs 0x1234, .rorAbs 0x1234,
       .rraAbs 0x1234].map some := by decide

theorem test_decode_row_7 :
    [[0x70, 0x34], [0x71, 0x34], [0x72], [0x73, 0x34], [0x74, 0x34], [0x75, 0x34], [0x76, 0x34], [0x77, 0x34],
       [0x78], [0x79, 0x34, 0x12], [0x7A], [0x7B, 0x34, 0x12], [0x7C, 0x34, 0x12], [0x7D, 0x34, 0x12], [0x7E, 0x34,
       0x12], [0x7F, 0x34, 0x12]].map wholeInstruction =
    [.bvs 0x34, .adcIzy 0x34, .jam72, .rraIzy 0x34, .nopZpx74 0x34, .adcZpx 0x34, .rorZpx 0x34, .rraZpx 0x34, .sei,
       .adcAby 0x1234, .nopImp7A, .rraAby 0x1234, .nopAbx7C 0x1234, .adcAbx 0x1234, .rorAbx 0x1234,
       .rraAbx 0x1234].map some := by decide

theorem test_decode_row_8 :
    [[0x80, 0x34], [0x81, 0x34], [0x82, 0x34], [0x83, 0x34], [0x84, 0x34], [0x85, 0x34], [0x86, 0x34], [0x87,
       0x34], [0x88], [0x89, 0x34], [0x8A], [0x8B, 0x34], [0x8C, 0x34, 0x12], [0x8D, 0x34, 0x12], [0x8E, 0x34,
       0x12], [0x8F, 0x34, 0x12]].map wholeInstruction =
    [.nopImm80 0x34, .staIzx 0x34, .nopImm82 0x34, .saxIzx 0x34, .styZp 0x34, .staZp 0x34, .stxZp 0x34,
       .saxZp 0x34, .dey, .nopImm89 0x34, .txa, .aneImm 0x34, .styAbs 0x1234, .staAbs 0x1234, .stxAbs 0x1234,
       .saxAbs 0x1234].map some := by decide

theorem test_decode_row_9 :
    [[0x90, 0x34], [0x91, 0x34], [0x92], [0x93, 0x34], [0x94, 0x34], [0x95, 0x34], [0x96, 0x34], [0x97, 0x34],
       [0x98], [0x99, 0x34, 0x12], [0x9A], [0x9B, 0x34, 0x12], [0x9C, 0x34, 0x12], [0x9D, 0x34, 0x12], [0x9E, 0x34,
       0x12], [0x9F, 0x34, 0x12]].map wholeInstruction =
    [.bcc 0x34, .staIzy 0x34, .jam92, .shaIzy 0x34, .styZpx 0x34, .staZpx 0x34, .stxZpy 0x34, .saxZpy 0x34, .tya,
       .staAby 0x1234, .txs, .tasAby 0x1234, .shyAbx 0x1234, .staAbx 0x1234, .shxAby 0x1234,
       .shaAby 0x1234].map some := by decide

theorem test_decode_row_A :
    [[0xA0, 0x34], [0xA1, 0x34], [0xA2, 0x34], [0xA3, 0x34], [0xA4, 0x34], [0xA5, 0x34], [0xA6, 0x34], [0xA7,
       0x34], [0xA8], [0xA9, 0x34], [0xAA], [0xAB, 0x34], [0xAC, 0x34, 0x12], [0xAD, 0x34, 0x12], [0xAE, 0x34,
       0x12], [0xAF, 0x34, 0x12]].map wholeInstruction =
    [.ldyImm 0x34, .ldaIzx 0x34, .ldxImm 0x34, .laxIzx 0x34, .ldyZp 0x34, .ldaZp 0x34, .ldxZp 0x34, .laxZp 0x34,
       .tay, .ldaImm 0x34, .tax, .lxaImm 0x34, .ldyAbs 0x1234, .ldaAbs 0x1234, .ldxAbs 0x1234,
       .laxAbs 0x1234].map some := by decide

theorem test_decode_row_B :
    [[0xB0, 0x34], [0xB1, 0x34], [0xB2], [0xB3, 0x34], [0xB4, 0x34], [0xB5, 0x34], [0xB6, 0x34], [0xB7, 0x34],
       [0xB8], [0xB9, 0x34, 0x12], [0xBA], [0xBB, 0x34, 0x12], [0xBC, 0x34, 0x12], [0xBD, 0x34, 0x12], [0xBE, 0x34,
       0x12], [0xBF, 0x34, 0x12]].map wholeInstruction =
    [.bcs 0x34, .ldaIzy 0x34, .jamB2, .laxIzy 0x34, .ldyZpx 0x34, .ldaZpx 0x34, .ldxZpy 0x34, .laxZpy 0x34, .clv,
       .ldaAby 0x1234, .tsx, .lasAby 0x1234, .ldyAbx 0x1234, .ldaAbx 0x1234, .ldxAby 0x1234,
       .laxAby 0x1234].map some := by decide

theorem test_decode_row_C :
    [[0xC0, 0x34], [0xC1, 0x34], [0xC2, 0x34], [0xC3, 0x34], [0xC4, 0x34], [0xC5, 0x34], [0xC6, 0x34], [0xC7,
       0x34], [0xC8], [0xC9, 0x34], [0xCA], [0xCB, 0x34], [0xCC, 0x34, 0x12], [0xCD, 0x34, 0x12], [0xCE, 0x34,
       0x12], [0xCF, 0x34, 0x12]].map wholeInstruction =
    [.cpyImm 0x34, .cmpIzx 0x34, .nopImmC2 0x34, .dcpIzx 0x34, .cpyZp 0x34, .cmpZp 0x34, .decZp 0x34, .dcpZp 0x34,
       .iny, .cmpImm 0x34, .dex, .sbxImm 0x34, .cpyAbs 0x1234, .cmpAbs 0x1234, .decAbs 0x1234,
       .dcpAbs 0x1234].map some := by decide

theorem test_decode_row_D :
    [[0xD0, 0x34], [0xD1, 0x34], [0xD2], [0xD3, 0x34], [0xD4, 0x34], [0xD5, 0x34], [0xD6, 0x34], [0xD7, 0x34],
       [0xD8], [0xD9, 0x34, 0x12], [0xDA], [0xDB, 0x34, 0x12], [0xDC, 0x34, 0x12], [0xDD, 0x34, 0x12], [0xDE, 0x34,
       0x12], [0xDF, 0x34, 0x12]].map wholeInstruction =
    [.bne 0x34, .cmpIzy 0x34, .jamD2, .dcpIzy 0x34, .nopZpxD4 0x34, .cmpZpx 0x34, .decZpx 0x34, .dcpZpx 0x34, .cld,
       .cmpAby 0x1234, .nopImpDA, .dcpAby 0x1234, .nopAbxDC 0x1234, .cmpAbx 0x1234, .decAbx 0x1234,
       .dcpAbx 0x1234].map some := by decide

theorem test_decode_row_E :
    [[0xE0, 0x34], [0xE1, 0x34], [0xE2, 0x34], [0xE3, 0x34], [0xE4, 0x34], [0xE5, 0x34], [0xE6, 0x34], [0xE7,
       0x34], [0xE8], [0xE9, 0x34], [0xEA], [0xEB, 0x34], [0xEC, 0x34, 0x12], [0xED, 0x34, 0x12], [0xEE, 0x34,
       0x12], [0xEF, 0x34, 0x12]].map wholeInstruction =
    [.cpxImm 0x34, .sbcIzx 0x34, .nopImmE2 0x34, .iscIzx 0x34, .cpxZp 0x34, .sbcZp 0x34, .incZp 0x34, .iscZp 0x34,
       .inx, .sbcImm 0x34, .nop, .sbcImmEB 0x34, .cpxAbs 0x1234, .sbcAbs 0x1234, .incAbs 0x1234,
       .iscAbs 0x1234].map some := by decide

theorem test_decode_row_F :
    [[0xF0, 0x34], [0xF1, 0x34], [0xF2], [0xF3, 0x34], [0xF4, 0x34], [0xF5, 0x34], [0xF6, 0x34], [0xF7, 0x34],
       [0xF8], [0xF9, 0x34, 0x12], [0xFA], [0xFB, 0x34, 0x12], [0xFC, 0x34, 0x12], [0xFD, 0x34, 0x12], [0xFE, 0x34,
       0x12], [0xFF, 0x34, 0x12]].map wholeInstruction =
    [.beq 0x34, .sbcIzy 0x34, .jamF2, .iscIzy 0x34, .nopZpxF4 0x34, .sbcZpx 0x34, .incZpx 0x34, .iscZpx 0x34, .sed,
       .sbcAby 0x1234, .nopImpFA, .iscAby 0x1234, .nopAbxFC 0x1234, .sbcAbx 0x1234, .incAbx 0x1234,
       .iscAbx 0x1234].map some := by decide

/-! ## One step of the CPU: the vectors of 95_test_vectors.md section 2, named by their ids -/

/-- The flags from the six digits of the vectors' `NVDIZC`. -/
def flagsOf (b : BitVec 6) : Flags :=
  { n := b.getLsbD 5, v := b.getLsbD 4, d := b.getLsbD 3, i := b.getLsbD 2, z := b.getLsbD 1, c := b.getLsbD 0 }

/-- Registers of a CPU with nothing pending. -/
def regs (a x y s : Byte) (pc : Word) (p : BitVec 6) : Cpu :=
  { a := a, x := x, y := y, s := s, pc := pc, p := flagsOf p, nmiPrev := false, nmiPending := false,
    intLatch := none, jammed := false }

/-- A running machine whose memory is all RAM, with these bytes. -/
def machine (c : Cpu) (bytes : Memory 8) : State :=
  { State.reset with cpu := c, ddr := 0xFF, ram := bytes, owed := 0 }

/-- The registers after one step, and its bus accesses in order. -/
def stepOf (c : Cpu) (bytes : Memory 8) : Option (Cpu × List BusAccess) :=
  match cpuStep (machine c bytes) with
  | .next t => some (t.cpu, t.trace.reverse)
  | .fault _ => none
  | .refused _ => none

theorem test_lda_a1 : stepOf (regs 0x55 0x00 0x00 0xFD 0x0200 0b000000)
    [(0x0200, 0xA9)] =
    some ((regs 0x00 0x00 0x00 0xFD 0x0202 0b000010),
      [.read 0x0200 0xA9, .read 0x0201 0x00]) := by decide

theorem test_ldx_a8 : stepOf (regs 0x00 0x00 0x20 0xFD 0x0200 0b000000)
    [(0x0010, 0x77), (0x0200, 0xB6), (0x0201, 0xF0)] =
    some ((regs 0x00 0x77 0x20 0xFD 0x0202 0b000000),
      [.read 0x0200 0xB6, .read 0x0201 0xF0, .read 0x00F0 0x00, .read 0x0010 0x77]) := by decide

theorem test_ldy_a9 : stepOf (regs 0x00 0x05 0x00 0xFD 0x0200 0b000000)
    [(0x0200, 0xB4), (0x0201, 0x10)] =
    some ((regs 0x00 0x05 0x00 0xFD 0x0202 0b000010),
      [.read 0x0200 0xB4, .read 0x0201 0x10, .read 0x0010 0x00, .read 0x0015 0x00]) := by decide

theorem test_sta_a10 : stepOf (regs 0xAB 0x01 0x00 0xFD 0x0200 0b000000)
    [(0x0200, 0x9D), (0x0201, 0xFF), (0x0202, 0x10)] =
    some ((regs 0xAB 0x01 0x00 0xFD 0x0203 0b000000),
      [.read 0x0200 0x9D, .read 0x0201 0xFF, .read 0x0202 0x10, .read 0x1000 0x00, .write 0x1100 0xAB]) := by decide

theorem test_stx_a13 : stepOf (regs 0x00 0xEE 0xFF 0xFD 0x0200 0b000000)
    [(0x0200, 0x96), (0x0201, 0x10)] =
    some ((regs 0x00 0xEE 0xFF 0xFD 0x0202 0b000000),
      [.read 0x0200 0x96, .read 0x0201 0x10, .read 0x0010 0x00, .write 0x000F 0xEE]) := by decide

theorem test_sty_a14 : stepOf (regs 0x00 0x00 0x80 0xFD 0x0200 0b000010)
    [(0x0200, 0x8C), (0x0201, 0x34), (0x0202, 0x12)] =
    some ((regs 0x00 0x00 0x80 0xFD 0x0203 0b000010),
      [.read 0x0200 0x8C, .read 0x0201 0x34, .read 0x0202 0x12, .write 0x1234 0x80]) := by decide

theorem test_tax_a15 : stepOf (regs 0x80 0x00 0x00 0xFD 0x0200 0b000000)
    [(0x0200, 0xAA)] =
    some ((regs 0x80 0x80 0x00 0xFD 0x0201 0b100000),
      [.read 0x0200 0xAA, .read 0x0201 0x00]) := by decide

theorem test_txa_a16 : stepOf (regs 0x11 0x00 0x00 0xFD 0x0200 0b000000)
    [(0x0200, 0x8A)] =
    some ((regs 0x00 0x00 0x00 0xFD 0x0201 0b000010),
      [.read 0x0200 0x8A, .read 0x0201 0x00]) := by decide

theorem test_txs_a17 : stepOf (regs 0x00 0x00 0x00 0xFD 0x0200 0b100000)
    [(0x0200, 0x9A)] =
    some ((regs 0x00 0x00 0x00 0x00 0x0201 0b100000),
      [.read 0x0200 0x9A, .read 0x0201 0x00]) := by decide

theorem test_tsx_a18 : stepOf (regs 0x00 0x00 0x00 0x00 0x0200 0b000000)
    [(0x0200, 0xBA)] =
    some ((regs 0x00 0x00 0x00 0x00 0x0201 0b000010),
      [.read 0x0200 0xBA, .read 0x0201 0x00]) := by decide

theorem test_pha_b1 : stepOf (regs 0x42 0x00 0x00 0x00 0x0200 0b000000)
    [(0x0200, 0x48)] =
    some ((regs 0x42 0x00 0x00 0xFF 0x0201 0b000000),
      [.read 0x0200 0x48, .read 0x0201 0x00, .write 0x0100 0x42]) := by decide

theorem test_pla_b2 : stepOf (regs 0x00 0x00 0x00 0xFF 0x0200 0b000000)
    [(0x0100, 0x80), (0x0200, 0x68)] =
    some ((regs 0x80 0x00 0x00 0x00 0x0201 0b100000),
      [.read 0x0200 0x68, .read 0x0201 0x00, .read 0x01FF 0x00, .read 0x0100 0x80]) := by decide

theorem test_php_b4 : stepOf (regs 0x00 0x00 0x00 0xFD 0x0200 0b000000)
    [(0x0200, 0x08)] =
    some ((regs 0x00 0x00 0x00 0xFC 0x0201 0b000000),
      [.read 0x0200 0x08, .read 0x0201 0x00, .write 0x01FD 0x30]) := by decide

theorem test_plp_b6 : stepOf (regs 0x00 0x00 0x00 0xFC 0x0200 0b000000)
    [(0x01FD, 0xFF), (0x0200, 0x28)] =
    some ((regs 0x00 0x00 0x00 0xFD 0x0201 0b111111),
      [.read 0x0200 0x28, .read 0x0201 0x00, .read 0x01FC 0x00, .read 0x01FD 0xFF]) := by decide

theorem test_adc_c1 : stepOf (regs 0xFF 0x00 0x00 0xFD 0x0200 0b000000)
    [(0x0200, 0x69), (0x0201, 0x01)] =
    some ((regs 0x00 0x00 0x00 0xFD 0x0202 0b000011),
      [.read 0x0200 0x69, .read 0x0201 0x01]) := by decide

theorem test_adc_c2 : stepOf (regs 0x7F 0x00 0x00 0xFD 0x0200 0b000000)
    [(0x0200, 0x69), (0x0201, 0x01)] =
    some ((regs 0x80 0x00 0x00 0xFD 0x0202 0b110000),
      [.read 0x0200 0x69, .read 0x0201 0x01]) := by decide

theorem test_sbc_c10 : stepOf (regs 0x00 0x00 0x00 0xFD 0x0200 0b000001)
    [(0x0200, 0xE9), (0x0201, 0x01)] =
    some ((regs 0xFF 0x00 0x00 0xFD 0x0202 0b100000),
      [.read 0x0200 0xE9, .read 0x0201 0x01]) := by decide

theorem test_sbc_c11 : stepOf (regs 0x00 0x00 0x00 0xFD 0x0200 0b000000)
    [(0x0200, 0xE9)] =
    some ((regs 0xFF 0x00 0x00 0xFD 0x0202 0b100000),
      [.read 0x0200 0xE9, .read 0x0201 0x00]) := by decide

theorem test_cmp_c16 : stepOf (regs 0x40 0x00 0x00 0xFD 0x0200 0b000000)
    [(0x0200, 0xC9), (0x0201, 0x40)] =
    some ((regs 0x40 0x00 0x00 0xFD 0x0202 0b000011),
      [.read 0x0200 0xC9, .read 0x0201 0x40]) := by decide

theorem test_cpx_c20 : stepOf (regs 0x00 0xFF 0x00 0xFD 0x0200 0b000000)
    [(0x0200, 0xE0), (0x0201, 0xFF)] =
    some ((regs 0x00 0xFF 0x00 0xFD 0x0202 0b000011),
      [.read 0x0200 0xE0, .read 0x0201 0xFF]) := by decide

theorem test_cpy_c21 : stepOf (regs 0x00 0x00 0x01 0xFD 0x0200 0b000000)
    [(0x0010, 0x02), (0x0200, 0xC4), (0x0201, 0x10)] =
    some ((regs 0x00 0x00 0x01 0xFD 0x0202 0b100000),
      [.read 0x0200 0xC4, .read 0x0201 0x10, .read 0x0010 0x02]) := by decide

theorem test_inc_c22 : stepOf (regs 0x00 0x00 0x00 0xFD 0x0200 0b000000)
    [(0x0010, 0xFF), (0x0200, 0xE6), (0x0201, 0x10)] =
    some ((regs 0x00 0x00 0x00 0xFD 0x0202 0b000010),
      [.read 0x0200 0xE6, .read 0x0201 0x10, .read 0x0010 0xFF, .write 0x0010 0xFF, .write 0x0010 0x00]) := by decide

theorem test_dec_c24 : stepOf (regs 0x00 0x00 0x00 0xFD 0x0200 0b000000)
    [(0x0200, 0xCE), (0x0201, 0x34), (0x0202, 0x12)] =
    some ((regs 0x00 0x00 0x00 0xFD 0x0203 0b100000),
      [.read 0x0200 0xCE, .read 0x0201 0x34, .read 0x0202 0x12, .read 0x1234 0x00, .write 0x1234 0x00,
       .write 0x1234 0xFF]) := by decide

theorem test_inx_c25 : stepOf (regs 0x00 0xFF 0x00 0xFD 0x0200 0b000000)
    [(0x0200, 0xE8)] =
    some ((regs 0x00 0x00 0x00 0xFD 0x0201 0b000010),
      [.read 0x0200 0xE8, .read 0x0201 0x00]) := by decide

theorem test_iny_c26 : stepOf (regs 0x00 0x00 0x7F 0xFD 0x0200 0b000000)
    [(0x0200, 0xC8)] =
    some ((regs 0x00 0x00 0x80 0xFD 0x0201 0b100000),
      [.read 0x0200 0xC8, .read 0x0201 0x00]) := by decide

theorem test_dex_c27 : stepOf (regs 0x00 0x00 0x00 0xFD 0x0200 0b000000)
    [(0x0200, 0xCA)] =
    some ((regs 0x00 0xFF 0x00 0xFD 0x0201 0b100000),
      [.read 0x0200 0xCA, .read 0x0201 0x00]) := by decide

theorem test_dey_c28 : stepOf (regs 0x00 0x00 0x01 0xFD 0x0200 0b000000)
    [(0x0200, 0x88)] =
    some ((regs 0x00 0x00 0x00 0xFD 0x0201 0b000010),
      [.read 0x0200 0x88, .read 0x0201 0x00]) := by decide

theorem test_and_e1 : stepOf (regs 0xF0 0x00 0x00 0xFD 0x0200 0b000000)
    [(0x0200, 0x29), (0x0201, 0x0F)] =
    some ((regs 0x00 0x00 0x00 0xFD 0x0202 0b000010),
      [.read 0x0200 0x29, .read 0x0201 0x0F]) := by decide

theorem test_ora_e2 : stepOf (regs 0x01 0x00 0x00 0xFD 0x0200 0b000000)
    [(0x0200, 0x09), (0x0201, 0x80)] =
    some ((regs 0x81 0x00 0x00 0xFD 0x0202 0b100000),
      [.read 0x0200 0x09, .read 0x0201 0x80]) := by decide

theorem test_eor_e3 : stepOf (regs 0xFF 0x00 0x00 0xFD 0x0200 0b000000)
    [(0x0200, 0x49), (0x0201, 0xFF)] =
    some ((regs 0x00 0x00 0x00 0xFD 0x0202 0b000010),
      [.read 0x0200 0x49, .read 0x0201 0xFF]) := by decide

theorem test_bit_e4 : stepOf (regs 0x01 0x00 0x00 0xFD 0x0200 0b000000)
    [(0x0010, 0xC0), (0x0200, 0x24), (0x0201, 0x10)] =
    some ((regs 0x01 0x00 0x00 0xFD 0x0202 0b110010),
      [.read 0x0200 0x24, .read 0x0201 0x10, .read 0x0010 0xC0]) := by decide

theorem test_asl_e6 : stepOf (regs 0x80 0x00 0x00 0xFD 0x0200 0b000000)
    [(0x0200, 0x0A)] =
    some ((regs 0x00 0x00 0x00 0xFD 0x0201 0b000011),
      [.read 0x0200 0x0A, .read 0x0201 0x00]) := by decide

theorem test_lsr_e8 : stepOf (regs 0x01 0x00 0x00 0xFD 0x0200 0b100000)
    [(0x0200, 0x4A)] =
    some ((regs 0x00 0x00 0x00 0xFD 0x0201 0b000011),
      [.read 0x0200 0x4A, .read 0x0201 0x00]) := by decide

theorem test_rol_e9 : stepOf (regs 0x80 0x00 0x00 0xFD 0x0200 0b000001)
    [(0x0200, 0x2A)] =
    some ((regs 0x01 0x00 0x00 0xFD 0x0201 0b000001),
      [.read 0x0200 0x2A, .read 0x0201 0x00]) := by decide

theorem test_ror_e10 : stepOf (regs 0x01 0x00 0x00 0xFD 0x0200 0b000001)
    [(0x0200, 0x6A)] =
    some ((regs 0x80 0x00 0x00 0xFD 0x0201 0b100001),
      [.read 0x0200 0x6A, .read 0x0201 0x00]) := by decide

theorem test_bne_f1 : stepOf (regs 0x00 0x00 0x00 0xFD 0x0200 0b000010)
    [(0x0200, 0xD0), (0x0201, 0x10)] =
    some ((regs 0x00 0x00 0x00 0xFD 0x0202 0b000010),
      [.read 0x0200 0xD0, .read 0x0201 0x10]) := by decide

theorem test_bne_f2 : stepOf (regs 0x00 0x00 0x00 0xFD 0x0200 0b000000)
    [(0x0200, 0xD0), (0x0201, 0x10)] =
    some ((regs 0x00 0x00 0x00 0xFD 0x0212 0b000000),
      [.read 0x0200 0xD0, .read 0x0201 0x10, .read 0x0202 0x00]) := by decide

theorem test_beq_f3 : stepOf (regs 0x00 0x00 0x00 0xFD 0x0200 0b000010)
    [(0x0200, 0xF0), (0x0201, 0xFC)] =
    some ((regs 0x00 0x00 0x00 0xFD 0x01FE 0b000010),
      [.read 0x0200 0xF0, .read 0x0201 0xFC, .read 0x0202 0x00, .read 0x02FE 0x00]) := by decide

theorem test_bcc_f4 : stepOf (regs 0x00 0x00 0x00 0xFD 0x02F0 0b000000)
    [(0x02F0, 0x90), (0x02F1, 0x7F)] =
    some ((regs 0x00 0x00 0x00 0xFD 0x0371 0b000000),
      [.read 0x02F0 0x90, .read 0x02F1 0x7F, .read 0x02F2 0x00, .read 0x0271 0x00]) := by decide

theorem test_bcs_f5 : stepOf (regs 0x00 0x00 0x00 0xFD 0x0200 0b000001)
    [(0x0200, 0xB0), (0x0201, 0xFE)] =
    some ((regs 0x00 0x00 0x00 0xFD 0x0200 0b000001),
      [.read 0x0200 0xB0, .read 0x0201 0xFE, .read 0x0202 0x00]) := by decide

theorem test_bpl_f6 : stepOf (regs 0x00 0x00 0x00 0xFD 0x0200 0b000000)
    [(0x0200, 0x10)] =
    some ((regs 0x00 0x00 0x00 0xFD 0x0202 0b000000),
      [.read 0x0200 0x10, .read 0x0201 0x00, .read 0x0202 0x00]) := by decide

theorem test_bmi_f7 : stepOf (regs 0x00 0x00 0x00 0xFD 0x0200 0b000000)
    [(0x0200, 0x30), (0x0201, 0x05)] =
    some ((regs 0x00 0x00 0x00 0xFD 0x0202 0b000000),
      [.read 0x0200 0x30, .read 0x0201 0x05]) := by decide

theorem test_bvc_f8 : stepOf (regs 0x00 0x00 0x00 0xFD 0x0200 0b000000)
    [(0x0200, 0x50), (0x0201, 0x80)] =
    some ((regs 0x00 0x00 0x00 0xFD 0x0182 0b000000),
      [.read 0x0200 0x50, .read 0x0201 0x80, .read 0x0202 0x00, .read 0x0282 0x00]) := by decide

theorem test_bvs_f9 : stepOf (regs 0x00 0x00 0x00 0xFD 0x0200 0b010000)
    [(0x0200, 0x70), (0x0201, 0x7F)] =
    some ((regs 0x00 0x00 0x00 0xFD 0x0281 0b010000),
      [.read 0x0200 0x70, .read 0x0201 0x7F, .read 0x0202 0x00]) := by decide

theorem test_jmp_f10 : stepOf (regs 0x00 0x00 0x00 0xFD 0x0200 0b000000)
    [(0x0200, 0x4C), (0x0201, 0x34), (0x0202, 0x12)] =
    some ((regs 0x00 0x00 0x00 0xFD 0x1234 0b000000),
      [.read 0x0200 0x4C, .read 0x0201 0x34, .read 0x0202 0x12]) := by decide

theorem test_jmp_f11 : stepOf (regs 0x00 0x00 0x00 0xFD 0x0200 0b000000)
    [(0x0200, 0x6C), (0x0201, 0xFF), (0x0202, 0x10), (0x1000, 0x12), (0x10FF, 0x34), (0x1100, 0x56)] =
    some ((regs 0x00 0x00 0x00 0xFD 0x1234 0b000000),
      [.read 0x0200 0x6C, .read 0x0201 0xFF, .read 0x0202 0x10, .read 0x10FF 0x34, .read 0x1000 0x12]) := by decide

theorem test_jsr_f13 : stepOf (regs 0x00 0x00 0x00 0xFD 0x0200 0b000000)
    [(0x0200, 0x20), (0x0201, 0x34), (0x0202, 0x12)] =
    some ((regs 0x00 0x00 0x00 0xFB 0x1234 0b000000),
      [.read 0x0200 0x20, .read 0x0201 0x34, .read 0x01FD 0x00, .write 0x01FD 0x02, .write 0x01FC 0x02,
       .read 0x0202 0x12]) := by decide

theorem test_rts_f14 : stepOf (regs 0x00 0x00 0x00 0xFB 0x0200 0b000000)
    [(0x01FC, 0x02), (0x01FD, 0x02), (0x0200, 0x60)] =
    some ((regs 0x00 0x00 0x00 0xFD 0x0203 0b000000),
      [.read 0x0200 0x60, .read 0x0201 0x00, .read 0x01FB 0x00, .read 0x01FC 0x02, .read 0x01FD 0x02,
       .read 0x0202 0x00]) := by decide

theorem test_nop_g3 : stepOf (regs 0x12 0x00 0x00 0xFD 0x0200 0b111111)
    [(0x0200, 0xEA)] =
    some ((regs 0x12 0x00 0x00 0xFD 0x0201 0b111111),
      [.read 0x0200 0xEA, .read 0x0201 0x00]) := by decide

theorem test_brk_g4 : stepOf (regs 0x00 0x00 0x00 0xFD 0x0200 0b110011)
    [(0x0201, 0xFF), (0xFFFF, 0x30)] =
    some ((regs 0x00 0x00 0x00 0xFA 0x3000 0b110111),
      [.read 0x0200 0x00, .read 0x0201 0xFF, .write 0x01FD 0x02, .write 0x01FC 0x02, .write 0x01FB 0xF3,
       .read 0xFFFE 0x00, .read 0xFFFF 0x30]) := by decide

theorem test_rti_g5 : stepOf (regs 0x00 0x00 0x00 0xFA 0x0200 0b000000)
    [(0x01FB, 0xF3), (0x01FC, 0x02), (0x01FD, 0x02), (0x0200, 0x40)] =
    some ((regs 0x00 0x00 0x00 0xFD 0x0202 0b110011),
      [.read 0x0200 0x40, .read 0x0201 0x00, .read 0x01FA 0x00, .read 0x01FB 0xF3, .read 0x01FC 0x02,
       .read 0x01FD 0x02]) := by decide

theorem test_slo_h1 : stepOf (regs 0x01 0x00 0x00 0xFD 0x0200 0b000000)
    [(0x0010, 0x81), (0x0200, 0x07), (0x0201, 0x10)] =
    some ((regs 0x03 0x00 0x00 0xFD 0x0202 0b000001),
      [.read 0x0200 0x07, .read 0x0201 0x10, .read 0x0010 0x81, .write 0x0010 0x81, .write 0x0010 0x02]) := by decide

theorem test_rla_h2 : stepOf (regs 0xFF 0x00 0x00 0xFD 0x0200 0b000001)
    [(0x0010, 0x40), (0x0200, 0x27), (0x0201, 0x10)] =
    some ((regs 0x81 0x00 0x00 0xFD 0x0202 0b100000),
      [.read 0x0200 0x27, .read 0x0201 0x10, .read 0x0010 0x40, .write 0x0010 0x40, .write 0x0010 0x81]) := by decide

theorem test_sre_h3 : stepOf (regs 0xFF 0x00 0x00 0xFD 0x0200 0b000000)
    [(0x0010, 0x03), (0x0200, 0x47), (0x0201, 0x10)] =
    some ((regs 0xFE 0x00 0x00 0xFD 0x0202 0b100001),
      [.read 0x0200 0x47, .read 0x0201 0x10, .read 0x0010 0x03, .write 0x0010 0x03, .write 0x0010 0x01]) := by decide

theorem test_rra_h4 : stepOf (regs 0x01 0x00 0x00 0xFD 0x0200 0b000001)
    [(0x0010, 0x02), (0x0200, 0x67), (0x0201, 0x10)] =
    some ((regs 0x82 0x00 0x00 0xFD 0x0202 0b100000),
      [.read 0x0200 0x67, .read 0x0201 0x10, .read 0x0010 0x02, .write 0x0010 0x02, .write 0x0010 0x81]) := by decide

theorem test_sax_h5 : stepOf (regs 0xF0 0x3C 0x00 0xFD 0x0200 0b000000)
    [(0x0200, 0x87), (0x0201, 0x10)] =
    some ((regs 0xF0 0x3C 0x00 0xFD 0x0202 0b000000),
      [.read 0x0200 0x87, .read 0x0201 0x10, .write 0x0010 0x30]) := by decide

theorem test_lax_h6 : stepOf (regs 0x00 0x00 0x00 0xFD 0x0200 0b000000)
    [(0x0010, 0x80), (0x0200, 0xA7), (0x0201, 0x10)] =
    some ((regs 0x80 0x80 0x00 0xFD 0x0202 0b100000),
      [.read 0x0200 0xA7, .read 0x0201 0x10, .read 0x0010 0x80]) := by decide

theorem test_dcp_h7 : stepOf (regs 0x41 0x00 0x00 0xFD 0x0200 0b000000)
    [(0x0010, 0x42), (0x0200, 0xC7), (0x0201, 0x10)] =
    some ((regs 0x41 0x00 0x00 0xFD 0x0202 0b000011),
      [.read 0x0200 0xC7, .read 0x0201 0x10, .read 0x0010 0x42, .write 0x0010 0x42, .write 0x0010 0x41]) := by decide

theorem test_isc_h8 : stepOf (regs 0x10 0x00 0x00 0xFD 0x0200 0b000001)
    [(0x0010, 0x0F), (0x0200, 0xE7), (0x0201, 0x10)] =
    some ((regs 0x00 0x00 0x00 0xFD 0x0202 0b000011),
      [.read 0x0200 0xE7, .read 0x0201 0x10, .read 0x0010 0x0F, .write 0x0010 0x0F, .write 0x0010 0x10]) := by decide

theorem test_anc_h10 : stepOf (regs 0xFF 0x00 0x00 0xFD 0x0200 0b000000)
    [(0x0200, 0x0B), (0x0201, 0x80)] =
    some ((regs 0x80 0x00 0x00 0xFD 0x0202 0b100001),
      [.read 0x0200 0x0B, .read 0x0201 0x80]) := by decide

theorem test_alr_h11 : stepOf (regs 0xFF 0x00 0x00 0xFD 0x0200 0b000000)
    [(0x0200, 0x4B), (0x0201, 0x03)] =
    some ((regs 0x01 0x00 0x00 0xFD 0x0202 0b000001),
      [.read 0x0200 0x4B, .read 0x0201 0x03]) := by decide

theorem test_arr_h12 : stepOf (regs 0xC0 0x00 0x00 0xFD 0x0200 0b000001)
    [(0x0200, 0x6B), (0x0201, 0xFF)] =
    some ((regs 0xE0 0x00 0x00 0xFD 0x0202 0b100001),
      [.read 0x0200 0x6B, .read 0x0201 0xFF]) := by decide

theorem test_arr_h13 : stepOf (regs 0x80 0x00 0x00 0xFD 0x0200 0b000000)
    [(0x0200, 0x6B), (0x0201, 0xFF)] =
    some ((regs 0x40 0x00 0x00 0xFD 0x0202 0b010001),
      [.read 0x0200 0x6B, .read 0x0201 0xFF]) := by decide

theorem test_sbx_h15 : stepOf (regs 0xFF 0x01 0x00 0xFD 0x0200 0b000000)
    [(0x0200, 0xCB), (0x0201, 0x01)] =
    some ((regs 0xFF 0x00 0x00 0xFD 0x0202 0b000011),
      [.read 0x0200 0xCB, .read 0x0201 0x01]) := by decide

theorem test_las_h18 : stepOf (regs 0x00 0x00 0x00 0xF0 0x0200 0b000000)
    [(0x0200, 0xBB), (0x0202, 0x10), (0x1000, 0x3C)] =
    some ((regs 0x30 0x30 0x00 0x30 0x0203 0b000000),
      [.read 0x0200 0xBB, .read 0x0201 0x00, .read 0x0202 0x10, .read 0x1000 0x3C]) := by decide

/-! ## Interrupt sequences (vectors I1 and I2) -/

/-- A machine with an interrupt latched. -/
def latched (k : Interrupt) (c : Cpu) (bytes : Memory 8) : State := machine { c with intLatch := some k } bytes

/-- The stack and vector accesses of a step, and where it leads. -/
def sequenceOf (s : State) : Option (Word × Flags × List BusAccess) :=
  match cpuStep s with
  | .next t => some (t.cpu.pc, t.cpu.p, t.trace.reverse)
  | .fault _ => none
  | .refused _ => none

theorem test_irq_sequence_i1 :
    sequenceOf (latched .irq (regs 0 0 0 0xFD 0x0200 0b110011) [(0x0200, 0xEA), (0xFFFF, 0x30)]) =
    some (0x3000, flagsOf 0b110111, [.read 0x0200 0xEA, .read 0x0200 0xEA, .write 0x01FD 0x02, .write 0x01FC 0x00,
      .write 0x01FB 0xE3, .read 0xFFFE 0x00, .read 0xFFFF 0x30]) := by decide

theorem test_nmi_sequence_i2 :
    sequenceOf (latched .nmi (regs 0 0 0 0xFD 0x0200 0b000100) [(0x0200, 0xEA), (0xFFFB, 0x40)]) =
    some (0x4000, flagsOf 0b000100, [.read 0x0200 0xEA, .read 0x0200 0xEA, .write 0x01FD 0x02, .write 0x01FC 0x00,
      .write 0x01FB 0x24, .read 0xFFFA 0x00, .read 0xFFFB 0x40]) := by decide

/-! ## The reset sequence (example of 70_reset_and_hazards.md R401, without the vector's bytes, which are the ROM's) -/

theorem test_reset_accesses :
    (resetSequence false (machine (regs 1 2 3 0x00 0x1234 0b111111) [])).trace.reverse.map BusAccess.addr =
    [0x1234, 0x1234, 0x0100, 0x01FF, 0x01FE, 0xFFFC, 0xFFFD] := by decide

theorem test_reset_stack_pointer :
    (resetSequence false (machine (regs 1 2 3 0x00 0x1234 0b111111) [])).cpu.s = 0xFD := by decide

/-! ## The host's two entry points (A1's neighbour `LDA #$05` as the first instruction after reset) -/

/-- A and PC after a step. -/
def aAndPc (r : Result) : Option (Byte × Word) :=
  match r with
  | .next t => some (t.cpu.a, t.cpu.pc)
  | .fault _ => none
  | .refused _ => none

theorem test_decode_table_word : decodeTableWord 16 0x05A9 = some (.ldaImm 0x05) := by decide
theorem test_first_step_after_reset : aAndPc (step (State.reset.withFetchWord 16 0x05A9)) = some (0x05, 0x0202) := by
  decide +kernel

/-! ## Memory and the processor port (vectors M1 to M10) -/

/-- The machine after reset with the port registers at these values. -/
def banked (ddr pr : Byte) : State := { machine (regs 0 0 0 0xFD 0x0200 0b000100) [] with ddr := ddr, pr := pr }

theorem test_ram_m1 : ((banked 0 0).busWrite 0xC000 0x55).peek 0xC000 = 0x55 := by decide
theorem test_rom_write_m2 : ((banked 0 0).busWrite 0xA000 0x55).ram = [] := by decide
theorem test_ram_under_rom_m3 :
  ((banked 0 0).busWrite 0xA000 0x55 |>.busWrite 0 0x2F |>.busWrite 1 0x36).peek 0xA000 = 0 := by
  decide
theorem test_vector_in_ram_m4 : ((banked 0x2F 0x35).busWrite 0xFFFE 0x12).peek 0xFFFE = 0x12 := by decide
theorem test_port_after_reset_m5 : (banked 0 0).peek 0x0001 = 0x17 := by decide
theorem test_port_m6 : (banked 0x2F 0x37).peek 0x0001 = 0x37 := by decide
theorem test_all_ram_m7 : (banked 0x2F 0x34).store 0xD020 = .ram := by decide
theorem test_chargen_m8 : (banked 0x2F 0x33).store 0xD000 = .chargen ∧
  (banked 0x2F 0x33).busWrite 0xD000 0xFF = banked 0x2F 0x33 := by
  decide
theorem test_colour_ram_m9 : ((banked 0x2F 0x37).busWrite 0xD800 0xFF).colorRam = [(0, 0xF)] := by decide
theorem test_expansion_m10 : ((banked 0x2F 0x37).busWrite 0xDE00 0xAA) = banked 0x2F 0x37 := by decide
theorem test_inc_port_m12 :
    ((machine (regs 0 0 0 0xFD 0x0200 0) [(0x0200, 0xE6), (0x0201, 0x01)]).busWrite 0 0x2F |>.busWrite 1 0x36
      |> sequenceOf).map (fun r => r.2.2) =
    some [.read 0x0200 0xE6, .read 0x0201 0x01, .read 0x0001 0x36, .write 0x0001 0x36, .write 0x0001 0x37] := by decide

/-! ## Devices (vectors D2 to D11) -/

theorem test_raster_latch_d2 : (Vic.afterReset.tick .pal).1.irqLatch = 1 := by decide
theorem test_irq_flags_d2 : ((Vic.afterReset.tick .pal).1.read 0x19).1 = 0x71 ∧
    (((Vic.afterReset.tick .pal).1.write 0x1A 0x01).read 0x19).1 = 0xF1 ∧
    ((((Vic.afterReset.tick .pal).1.write 0x1A 0x01).write 0x19 0x01).read 0x19).1 = 0x70 := by decide
theorem test_raster_compare_d3 : ((Vic.afterReset.write 0x11 0x9B).write 0x12 0x00).rasterCmp = 0x100 := by decide

/-- CIA1 as vector D4 programs it. -/
def d4 (mask ctrl : Byte) : Cia :=
  (((Cia.afterReset.write 0x4 0x03).write 0x5 0x00).write 0xD mask).write 0xE ctrl

/-- The timers' part of CIA's tick. -/
def counted (c : Cia) : Cia := c.tickA.tickB

theorem test_timer_d4 : (Nat.repeat counted 3 (d4 0x81 0x01)).ta.counter = 0 ∧
    (Nat.repeat counted 4 (d4 0x81 0x01)).ta.counter = 3 := by decide
theorem test_icr_d4 : ((Nat.repeat counted 4 (d4 0x81 0x01)).read 0xD 0xFF 0xFF).1 = 0x81 := by decide
theorem test_one_shot_d5 : ((Nat.repeat counted 4 (d4 0x81 0x09)).read 0xE 0xFF 0xFF).1 = 0x08 := by decide
theorem test_masked_d6 : ((Nat.repeat counted 4 (d4 0x00 0x01)).read 0xD 0xFF 0xFF).1 = 0x01 := by decide
theorem test_timer_b_d7 :
    (Nat.repeat counted 4 (((d4 0x81 0x00).write 0xF 0x42).write 0xF 0x43 |>.write 0xE 0x01)).tb.counter =
      0xFFFE := by
  decide

/-- The video chip of vectors D8 and D9. -/
def d8 (line : BitVec 9) (cycle : Nat) : Vic :=
  { Vic.afterReset with denSeen := true, regs := [(0x11, 0x1B)], raster := line, rcycle := cycle }

theorem test_badline_d8 : (d8 0x33 14).steal .pal = false ∧ (d8 0x33 15).steal .pal = true ∧
  (d8 0x33 54).steal .pal = true ∧
    (d8 0x33 55).steal .pal = false := by decide
theorem test_no_badline_d9 : (d8 0x34 15).steal .pal = false := by decide

/-- CIA1's port A with left and fire of joystick port 2 pressed (vector D10). -/
def d10 : State := (banked 0x2F 0x37).moveJoystick true fun _ => { now := 0b10100, earlier := [] }

theorem test_joystick_d10 : d10.peek 0xDC00 = 0xEB ∧
    ({ d10 with cia1 := { d10.cia1 with ddra := 0xFF, pra := 0x7F } }.peek 0xDC00) = 0x6B := by decide
theorem test_ports_idle_d11 : (banked 0x2F 0x37).peek 0xDC00 = 0xFF ∧
  (banked 0x2F 0x37).peek 0xDC01 = 0xFF := by decide

/-! ## Witnesses: for each statement with hypotheses, a state and operands that meet them -/

/-- A running machine in the middle of its life. -/
def running : State :=
  { machine (regs 0x41 0x02 0x03 0xF0 0x0400 0b010001) [(0x0010, 0x80), (0x0400, 0xA9), (0x0401, 0x05),
    (0x0402, 0xEA)] with
    cycle := 1000 }

/-- The same machine under `ILLEGAL_POLICY = Nop`. -/
def runningNop : State := { running with params := { running.params with illegalPolicy := .nop } }

/-- What an instruction leaves in A, X, S and the flags. -/
def result (i : Instr) (s : State) : Option (Byte × Byte × Byte × Flags) :=
  match exec i s with
  | .next t => some (t.cpu.a, t.cpu.x, t.cpu.s, t.cpu.p)
  | .fault _ => none
  | .refused _ => none

/-- DecimalModeAddsAndSubtractsDecimalNumbers: the largest and the smallest decimal bytes. -/
theorem witness_DecimalModeAddsAndSubtractsDecimalNumbers :
    (∀ b ∈ [(0x00 : Byte), 0x09, 0x90, 0x99], b.toNat % 16 ≤ 9 ∧ b.toNat / 16 ≤ 9) ∧
    (addWithCarry 0x99 0x01 false true).r = 0x00 := by decide

/-- RtsReturnsAfterJsr, RtiUndoesTheInterruptSequence and MemoryRoundTrip: a RAM in canonical form with bytes
listed. -/
theorem witness_RtsReturnsAfterJsr : Memory.wf running.ram = true ∧ running.ram ≠ [] := by decide

theorem witness_RtiUndoesTheInterruptSequence :
    Memory.wf (latched .irq running.cpu running.ram).ram = true := by decide

/-- The statements under Quirk: the policy, and a result by the rule named. -/
theorem witness_SloRlaSreShiftMemoryIntoTheAccumulator : running.params.illegalPolicy = .quirk ∧
    result (.sloZp 0x10) running = some (0x41, 0x02, 0xF0, flagsOf 0b010001) := by decide
theorem witness_RraDcpIscModifyMemoryAndUseTheAdder : running.params.illegalPolicy = .quirk ∧
    result (.dcpZp 0x10) running = some (0x41, 0x02, 0xF0, flagsOf 0b110000) := by decide
theorem witness_SaxLaxLasMoveTwoRegisters : running.params.illegalPolicy = .quirk ∧
    result (.laxZp 0x10) running = some (0x80, 0x80, 0xF0, flagsOf 0b110001) := by decide
theorem witness_AncAlrArrSbxAndTheSecondSbc : running.params.illegalPolicy = .quirk ∧
    result (.ancImm0B 0x40) running = some (0x40, 0x02, 0xF0, flagsOf 0b010000) := by decide
theorem witness_UndocumentedNopsOnlyRead : running.params.illegalPolicy = .quirk ∧
    result (.nopZp04 0x10) running = some (0x41, 0x02, 0xF0, flagsOf 0b010001) := by decide
/-- The draw is free; an operand of zero makes the result the same for every draw. -/
theorem witness_AneAndLxaDependOnTheDraw : running.params.illegalPolicy = .quirk ∧
    { running.cpu with a := 0xFF }.a = 0xFF ∧
    (Config.unstableConst running.draws.unstable ||| running.cpu.a) &&& 0x00 = 0x00 := by
  refine ⟨rfl, rfl, ?_⟩
  simp
theorem witness_UnstableStoresDependOnTheDraw : running.params.illegalPolicy = .quirk ∧
    pageCrossed (.aby 0x10FE) running = true ∧ pageCrossed (.aby 0x10FC) running = false := by decide
/-- Both clauses: a machine about to jam, and a jammed one. -/
theorem witness_JamHaltsTheCpu : running.params.illegalPolicy = .quirk ∧
    ({ running with cpu := { running.cpu with jammed := true } } : State).cpu.jammed = true := by decide
theorem witness_NopPolicyExecutesUndocumentedBytesAsNoOperations : runningNop.params.illegalPolicy = .nop ∧
    result .jam02 runningNop = some (0x41, 0x02, 0xF0, flagsOf 0b010001) := by decide

/-- EncodeInvertsDecode: a string that decodes, and the two that are rejected. -/
theorem witness_EncodeInvertsDecode : decode [0xA9, 0x05, 0xEA] = .ok (.ldaImm 0x05, [0xEA]) ∧
    decode [] = .error .noOpcode ∧ decode [0xA9] = .error (.truncated 0xA9) := by decide

/-- StepRunsTheDecodedInstruction: every hypothesis at once, with the three bytes at PC. -/
theorem witness_StepRunsTheDecodedInstruction : running.session.isRunning = true ∧ running.owed = 0 ∧
    running.cpu.jammed = false ∧ running.cpu.intLatch = none ∧
    (∀ k < 3, running.store (running.cpu.pc + BitVec.ofNat 16 k) ≠ .io) ∧
    decode [running.peek running.cpu.pc, running.peek (running.cpu.pc + 1), running.peek (running.cpu.pc + 2)] =
      .ok (.ldaImm 0x05, [0xEA]) ∧ (Instr.ldaImm 0x05).wellFormed = true := by decide

/-- EveryStepKeepsTheInvariant: a state that is not the reset state and satisfies the invariant, and whose step gives
a next state. -/
theorem running_inv : running.Inv :=
  { ram := by decide
    ramBelow := by unfold Memory.below; decide
    color := by decide
    colorBelow := by unfold Memory.below; decide
    vicRegs := by decide
    vicRegsBelow := by unfold Memory.below; decide
    raster := by decide
    cycleOne := by decide
    cycleLast := by decide
    strobes := by decide
    jammed := by decide
    nopPolicy := by decide
    monitor := by decide
    inMonitor := by decide
    released := by decide }

theorem witness_EveryStepKeepsTheInvariant : running.Inv ∧ ∃ t, step running = .next t := ⟨running_inv, _, rfl⟩

/-- CyclesEqualBusAccesses: LDA immediate fetched by a CPU that is neither jammed nor interrupted. -/
theorem witness_CyclesEqualBusAccesses : running.params.illegalPolicy = .quirk ∧ running.cpu.jammed = false ∧
    running.cpu.intLatch = none ∧ (fetchInstr { running with trace := [] }).1 = .ldaImm 0x05 := by decide

/-- ReadsHaveNoOtherSideEffect: the last address below the I/O region, and addresses inside it whose reads have no
effect, at the ends of each device. -/
theorem witness_ReadsHaveNoOtherSideEffect :
    [(0xCFFF : Word), 0xD000, 0xD01D, 0xD01E, 0xDFFF, 0xE000].map (banked 0x2F 0x37).store =
      [.ram, .io, .io, .io, .io, .kernal] ∧
    [(0xD000 : Word), 0xD01D, 0xD3FF, 0xD400, 0xD7FF, 0xD800, 0xDBFF, 0xDC00, 0xDCFF, 0xDD00, 0xDDFF, 0xDE00,
      0xDFFF].map readHasEffect = List.replicate 13 false ∧
    [(0xD01E : Word), 0xD01F, 0xDC08, 0xDC0B, 0xDC0D, 0xDD0D].map readHasEffect = List.replicate 6 true := by decide

/-- InterruptSequenceEntersTheHandler: one of each kind. -/
theorem witness_InterruptSequenceEntersTheHandler :
    (latched .nmi running.cpu running.ram).cpu.jammed = false ∧
    (latched .nmi running.cpu running.ram).cpu.intLatch = some .nmi ∧
    (latched .irq running.cpu running.ram).cpu.jammed = false ∧
    (latched .irq running.cpu running.ram).cpu.intLatch = some .irq := by decide

/-- MemoryRoundTrip: the first and the last address of each store in the reset configuration, and both values of
`ROM_WRITE_THROUGH`. -/
theorem witness_MemoryRoundTrip : Memory.wf running.ram = true ∧ Memory.wf (banked 0x2F 0x37).ram = true ∧
    [(0x0002 : Word), 0x9FFF, 0xA000, 0xBFFF, 0xC000, 0xCFFF, 0xE000, 0xFFFF].map (banked 0x2F 0x37).store =
      [.ram, .ram, .basic, .basic, .ram, .ram, .kernal, .kernal] ∧
    [(0xD000 : Word), 0xDFFF].map (banked 0x2F 0x33).store = [.chargen, .chargen] ∧
    running.params.romWriteThrough = false ∧
    { running with params := { running.params with romWriteThrough := true } }.params.romWriteThrough =
      true := by decide

/-- BankTableAndProcessorPort: each region of the table at its ends, in a configuration that distinguishes it. -/
theorem witness_BankTableAndProcessorPort :
    [(0x0000 : Word),
     0x0001, 0x0002, 0x9FFF, 0xA000, 0xBFFF, 0xC000, 0xCFFF, 0xD000, 0xDFFF, 0xE000, 0xFFFF].map (storeOf 0b111) =
    [.portDirection, .portData, .ram, .ram, .basic, .basic, .ram, .ram, .io, .io, .kernal, .kernal] := by decide

/-- TimersUnderflowEveryNPlusOneTicks: a running timer at zero and one at three; a stopped one. -/
theorem witness_TimersUnderflowEveryNPlusOneTicks : (d4 0x81 0x01).ta.running = true ∧ (d4 0x81 0x01).ta.counter = 3 ∧
    { (d4 0x81 0x01).ta with counter := 0 }.running = true ∧ Timer.afterReset.running = false := by decide

/-- RasterWrapsOncePerFrame: the first and the last position of the frame, in both standards. -/
theorem witness_RasterWrapsOncePerFrame : ∀ p ∈ [(VideoStandard.pal, (0 : BitVec 9), 1), (.pal, 311, 63),
  (.ntsc, 0, 1), (.ntsc, 262, 65)],
    p.2.1.toNat < p.1.lines ∧ 1 ≤ p.2.2 ∧ p.2.2 ≤ p.1.cyclesPerLine := by decide

/-- StolenTicksPayForNoCycle: a PAL machine, on a badline and not. -/
theorem witness_StolenTicksPayForNoCycle : running.params.videoStandard = .pal ∧ running.steal = false ∧
    { running with vic := d8 0x33 15 }.steal = true := by decide

/-- WarpChangesNothingButTheLifecycle. -/
theorem witness_WarpChangesNothingButTheLifecycle : running.session.lifecycle = .running ∧
  running.session.queue = [] := by decide

/-- A running machine with a memory dump queued. -/
def dumping : State := running.enqueue (.monitor (.memoryDump 0xC000 8))

theorem witness_MonitorDumpShowsLiveMemory : dumping.session.lifecycle = .running ∧
    dumping.session.queue = [.monitor (.memoryDump 0xC000 8)] ∧ dumping.session.monitor = .inactive ∧
    dumping.session.released = false ∧ dumping.session.breakpoints = [] := by decide

/-- ColourRamKeepsTheLowNibble: the ends of colour RAM and of the expansion region. -/
theorem witness_ColourRamKeepsTheLowNibble : Memory.wf (banked 0x2F 0x37).colorRam = true ∧
    [(0xD800 : Word), 0xDBFF, 0xDE00, 0xDFFF].map (banked 0x2F 0x37).store = [.io, .io, .io, .io] ∧
    [(0xD800 : Word), 0xDBFF, 0xDE00, 0xDFFF].map ioDevice = [.color, .color, .expansion, .expansion] := by decide

theorem witness_TimeOfDayFreezesAndStops : Tod.afterReset.latched = false ∧
  (Tod.afterReset.read 3).1 = 0x01 := by decide

/-- Breakpoints of each kind that are hit, and none that is. -/
def watched (b : Breakpoint) : State :=
  { running with
    session := { running.session with breakpoints := [b] }
    trace := [.write 0xD020 0x01, .read 0x0010 0x80] }

theorem witness_BreakpointsSuspendAtTheBoundary :
    (∀ b ∈ [({ addr := 0x0400, kind := .execute, enabled := true } : Breakpoint),
        { addr := 0x0010, kind := .read, enabled := true }, { addr := 0xD020, kind := .write, enabled := true }],
      (checkBreakpoints (watched b)).session.lifecycle = .inMonitor) ∧
    checkBreakpoints (watched { addr := 0x0010, kind := .write, enabled := true }) =
      watched { addr := 0x0010, kind := .write, enabled := true } := by decide

/-- AudioVoicesAdvanceEachTick: a voice without SYNC, one with TEST, and the register numbers at the ends of the
ranges. -/
theorem witness_AudioVoicesAdvanceEachTick : (Sid.afterReset.voice 0).control.getLsbD 1 = false ∧
    ((Sid.afterReset.write 0x04 0x08).voice 0).control.getLsbD 3 = true ∧
    [(0x00 : BitVec 5), 0x18, 0x1D, 0x1F].map (Sid.afterReset.read · 0) = [none, none, none, none] := by decide

/-- VideoChipRegistersAndInterruptLatch: a chip whose register file is in canonical form, the last plain register, a
write that latches and one that does not, and the ends of the chip's window in the I/O region. -/
def displaying : Vic :=
  { Vic.afterReset with raster := 0x12C, irqLatch := 0b1001, regs := [(0x11, 0x1B), (0x20, 0x0E)] }

theorem witness_VideoChipRegistersAndInterruptLatch : Memory.wf displaying.regs = true ∧
    (0x2E : BitVec 6).toNat < 0x2F ∧
    (0x2E : BitVec 6) ∉ ([0x11, 0x12, 0x19, 0x1A, 0x1E, 0x1F] : List (BitVec 6)) ∧ 0x2F ≤ (0x3F : BitVec 6).toNat ∧
    [BitVec.ofNat 16 (0xD000 + 0), BitVec.ofNat 16 (0xD000 + 0x3FF)].map (banked 0x2F 0x37).store = [.io, .io] := by
  decide

/-- R334, R335 and R336 on that chip: what it shows, the compare write that latches, the acknowledge. -/
theorem test_vic_registers : [(0x11 : BitVec 6), 0x12, 0x19, 0x1A, 0x20].map (fun n => (displaying.read n).1) =
    [0x9B, 0x2C, 0x79, 0xF0, 0xFE] := by decide
theorem test_vic_compare_and_acknowledge :
    (({ displaying with irqLatch := 0, rasterCmp := 0x100 }).write 0x12 0x2C).irqLatch = 0b0001 ∧
    (({ displaying with irqLatch := 0, rasterCmp := 0x12C }).write 0x12 0x2C).irqLatch = 0b0000 ∧
    (displaying.write 0x19 0x08).irqLatch = 0b0001 := by decide

/-! ## The audio chip and the Monitor -/

/-- R363: a read of OSC3 leaves the chip as it is, also with a waveform that is not defined (here none). -/
theorem test_osc3_read_keeps_the_chip :
    ((banked 0x2F 0x37).busRead 0xD41B).2.sid = (banked 0x2F 0x37).sid ∧
    ((banked 0x2F 0x37).busRead 0xD41B).2.draws.osc3 = 1 := by decide

/-- R380: a line that does not parse is reported, with no change of state, running or paused. -/
theorem test_unparsable_line :
    (boundary (running.enqueue (.monitor .unparsable))).session =
      { running.session with events := [.monitorSyntaxError] } ∧
    (boundary ((running.setLifecycle .paused).enqueue (.monitor .unparsable))).session =
      { running.session with lifecycle := .paused, events := [.monitorSyntaxError] } := by decide

theorem witness_CiaPortsSeeThePins : (banked 0x2F 0x37).store 0xDC00 = .io ∧
  (banked 0x2F 0x37).input.joy1.earlier = [] ∧
    (banked 0x2F 0x37).input.joy2.earlier = [] ∧ (banked 0x2F 0x37).input.keys = [] ∧
    (banked 0x2F 0x37).cia1.ta.ctrl.getLsbD 1 = false ∧ (banked 0x2F 0x37).cia1.tb.ctrl.getLsbD 1 = false ∧
    (banked 0x2F 0x37).input.drives = [] := by decide

end Sys2Proof.Tests
end

namespace Sys2Proof.Machine

/-! # The bank table and the processor port -/

/-! ## Which store answers (20_memory.md R80 to R82) -/

/-- Above the port the map's tests compare the address with the bounds of the table's regions, here as numbers. -/
theorem storeOf_of_two_le (b : BitVec 3) (a : Word) (h : 2 ≤ a.toNat) : storeOf b a =
    if a.toNat < 0xA000 then .ram
    else if a.toNat < 0xC000 then if b.getLsbD 0 && b.getLsbD 1 then .basic else .ram
    else if a.toNat < 0xD000 then .ram
    else if a.toNat < 0xE000 then
      if !b.getLsbD 0 && !b.getLsbD 1 then .ram else if b.getLsbD 2 then .io else .chargen
    else if b.getLsbD 1 then .kernal
    else .ram := by
  have h0 : a ≠ 0x0000 := by rintro rfl; simp at h
  have h1 : a ≠ 0x0001 := by rintro rfl; simp at h
  rw [storeOf, if_neg h0, if_neg h1]
  rfl

/-- LORAM and HIRAM are set in two of the eight configurations. -/
theorem loram_and_hiram_iff : ∀ b : BitVec 3,
    (b.getLsbD 0 && b.getLsbD 1) = true ↔ b = 0b011 ∨ b = 0b111 := by decide

/-- LORAM and HIRAM are clear in two of the eight configurations. -/
theorem not_loram_and_not_hiram_iff : ∀ b : BitVec 3,
    (!b.getLsbD 0 && !b.getLsbD 1) = true ↔ b = 0b000 ∨ b = 0b100 := by decide

/-- HIRAM is set in four of the eight configurations. -/
theorem hiram_iff : ∀ b : BitVec 3,
    b.getLsbD 1 = true ↔ b = 0b010 ∨ b = 0b011 ∨ b = 0b110 ∨ b = 0b111 := by decide

/-- CHAREN is set in the upper four configurations. -/
theorem charen_iff : ∀ b : BitVec 3, b.getLsbD 2 = true ↔ 4 ≤ b.toNat := by decide

theorem storeOf_ram (b : BitVec 3) (a : Word) (h2 : 2 ≤ a.toNat)
    (h : a.toNat < 0xA000 ∨ 0xC000 ≤ a.toNat ∧ a.toNat < 0xD000) : storeOf b a = .ram := by
  rw [storeOf_of_two_le b a h2]
  obtain h | ⟨hlo, hhi⟩ := h
  · rw [if_pos h]
  · rw [if_neg (by omega), if_neg (by omega), if_pos hhi]

theorem storeOf_basic (b : BitVec 3) (a : Word) (hlo : 0xA000 ≤ a.toNat) (hhi : a.toNat < 0xC000) :
    storeOf b a = if b = 0b011 ∨ b = 0b111 then .basic else .ram := by
  rw [storeOf_of_two_le b a (by omega), if_neg (by omega), if_pos hhi]
  simp only [loram_and_hiram_iff]

theorem storeOf_io (b : BitVec 3) (a : Word) (hlo : 0xD000 ≤ a.toNat) (hhi : a.toNat < 0xE000) :
    storeOf b a = if b = 0b000 ∨ b = 0b100 then .ram else if 4 ≤ b.toNat then .io else .chargen := by
  rw [storeOf_of_two_le b a (by omega), if_neg (by omega), if_neg (by omega), if_neg (by omega), if_pos hhi]
  simp only [not_loram_and_not_hiram_iff, charen_iff]

theorem storeOf_kernal (b : BitVec 3) (a : Word) (h : 0xE000 ≤ a.toNat) :
    storeOf b a = if b = 0b010 ∨ b = 0b011 ∨ b = 0b110 ∨ b = 0b111 then .kernal else .ram := by
  rw [storeOf_of_two_le b a (by omega), if_neg (by omega), if_neg (by omega), if_neg (by omega),
    if_neg (by omega)]
  simp only [hiram_iff]

/-- With LORAM and HIRAM clear everything above the port is RAM, whatever CHAREN is. -/
theorem storeOf_all_ram (b : BitVec 3) (hb : b = 0b000 ∨ b = 0b100) (a : Word) :
    storeOf b a = if a = 0 then .portDirection else if a = 1 then .portData else .ram := by
  by_cases h0 : a = 0
  · subst h0; rfl
  by_cases h1 : a = 1
  · subst h1; rfl
  rw [storeOf_of_two_le b a (by bv_omega), if_neg h0, if_neg h1]
  obtain rfl | rfl := hb <;> simp

/-- The configuration is the low three bits of `PR OR NOT DDR` (10_state.md R31). -/
theorem State.bank_toNat (s : State) : s.bank.toNat = (s.pr ||| ~~~s.ddr).toNat % 8 := by
  simp [State.bank, bankOf]

/-- Settles O49: each clause is the law of one region of the map, or of the port. -/
theorem bankTableAndProcessorPort : Obligations.BankTableAndProcessorPort := by
  refine ⟨fun a => ⟨storeOf_all_ram 0b000 (.inl rfl) a, ?_⟩, storeOf_ram, storeOf_basic, storeOf_io, storeOf_kernal,
    fun s v => ⟨rfl, rfl, rfl, rfl, s.bank_toNat⟩⟩
  rw [storeOf_all_ram 0b000 (.inl rfl) a, storeOf_all_ram 0b100 (.inr rfl) a]

end Sys2Proof.Machine

namespace Sys2Proof.Machine

/-! # The devices and the parts of the invariant that speak of them -/

/-! ## What a bus read changes of each device (20_memory.md R68) -/

/-- A read of the video chip clears a collision register or changes nothing (60_exceptions.md R346). -/
theorem Vic.read_snd (n : BitVec 6) (v : Vic) : (v.read n).2 = v ∨
    (v.read n).2 = { v with spriteSprite := 0 } ∨ (v.read n).2 = { v with spriteBackground := 0 } := by
  unfold Vic.read
  split
  case h_7 => exact .inr (.inl rfl)
  case h_8 => exact .inr (.inr rfl)
  case h_9 =>
    split
    · exact .inl rfl
    · split <;> exact .inl rfl
  all_goals exact .inl rfl

/-- A read of a CIA acknowledges the interrupt (60_exceptions.md R356), moves the freeze of the time of day (R358), or
changes nothing. -/
theorem Cia.read_snd (n : BitVec 4) (extA extB : Byte) (c : Cia) : (c.read n extA extB).2 = c ∨
    (c.read n extA extB).2 = { c with icrData := 0, ir := false } ∨
    ∃ latched latch, (c.read n extA extB).2 = { c with tod := { c.tod with latched := latched, latch := latch } } := by
  unfold Cia.read
  split
  case h_10 => exact .inr (.inl rfl)
  case h_13 =>
    refine .inr (.inr ?_)
    unfold Tod.read
    split
    · exact ⟨_, _, rfl⟩
    · exact ⟨_, _, rfl⟩
    · exact ⟨_, _, rfl⟩
    · dsimp only
      split <;> exact ⟨_, _, rfl⟩
  all_goals exact .inl rfl

/-- A read of CIA1 is a read of its register, with whatever the pins show. -/
theorem State.readCia1_snd (n : BitVec 4) (s : State) : (∃ extA extB,
    (s.readCia1 n).2.cia1 = (s.cia1.read n extA extB).2) ∧ (s.readCia1 n).2.cia2 = s.cia2 ∧
    (s.readCia1 n).2.vic = s.vic ∧ (s.readCia1 n).2.input.steady = s.input.steady := by
  unfold State.readCia1
  dsimp only
  split
  · obtain ⟨d, h⟩ := State.countJoystick_eq s.input.joy2 _
    rw [h]
    exact ⟨⟨_, _, rfl⟩, rfl, rfl, rfl⟩
  · obtain ⟨d, h⟩ := State.countJoystick_eq s.input.joy1 _
    rw [h]
    exact ⟨⟨_, _, rfl⟩, rfl, rfl, rfl⟩
  · exact ⟨⟨_, _, rfl⟩, rfl, rfl, rfl⟩

/-- What a bus read leaves in the devices: each is as it was or as a read of one of its registers leaves it, and the
inputs differ in the joystick values still to choose from. -/
structure ReadOf (s t : State) : Prop where
  vic : t.vic = s.vic ∨ ∃ n, t.vic = (s.vic.read n).2
  cia1 : t.cia1 = s.cia1 ∨ ∃ n extA extB, t.cia1 = (s.cia1.read n extA extB).2
  cia2 : t.cia2 = s.cia2 ∨ ∃ n extA extB, t.cia2 = (s.cia2.read n extA extB).2
  input : t.input.steady = s.input.steady

theorem State.readOf_ioRead (a : Word) (s : State) : ReadOf s (s.ioRead a).2 := by
  unfold State.ioRead
  split
  case h_1 => exact ⟨.inr ⟨_, rfl⟩, .inl rfl, .inl rfl, rfl⟩
  case h_2 =>
    split
    · obtain ⟨d, h⟩ := State.countOsc3_eq (a.extractLsb' 0 5) s
      rw [h]
      exact ⟨.inl rfl, .inl rfl, .inl rfl, rfl⟩
    · exact ⟨.inl rfl, .inl rfl, .inl rfl, rfl⟩
  case h_4 =>
    obtain ⟨⟨extA, extB, hcia1⟩, hcia2, hvic, hinput⟩ := State.readCia1_snd (a.extractLsb' 0 4) s
    exact ⟨.inl hvic, .inr ⟨_, extA, extB, hcia1⟩, .inl hcia2, hinput⟩
  case h_5 => exact ⟨.inl rfl, .inl rfl, .inr ⟨_, _, _, rfl⟩, rfl⟩
  all_goals exact ⟨.inl rfl, .inl rfl, .inl rfl, rfl⟩

theorem State.readOf_busRead (a : Word) (s : State) : ReadOf s (s.busRead a).2 := by
  by_cases h : s.store a = .io
  · simp only [State.busRead, h]
    exact State.readOf_ioRead a s
  · rw [State.busRead_pure a s h]
    exact ⟨.inl rfl, .inl rfl, .inl rfl, rfl⟩

/-! ## The parts of the invariant

`State.Inv` speaks of each store, device and of the session by itself; its parts have names of their own here, so that
an operation on one of them is shown to keep that part alone. -/

/-- A store is canonical and lies below a bound (10_state.md R34). -/
def Memory.Canonical {w : Nat} (bound : Nat) (m : Memory w) : Prop := Memory.wf m = true ∧ Memory.below bound m

theorem Memory.Canonical.write {w bound : Nat} {m : Memory w} (h : m.Canonical bound) {a : Nat} (ha : a < bound)
    (v : BitVec w) : (Memory.write m a v).Canonical bound := by
  refine ⟨Memory.wf_write m a v h.1, fun c hc => ?_⟩
  obtain hm | rfl := Memory.mem_write m a v c hc
  · exact h.2 c hm
  · exact ha

theorem Memory.canonical_nil {w : Nat} (bound : Nat) : Memory.Canonical bound ([] : Memory w) :=
  ⟨rfl, fun _ hc => absurd hc List.not_mem_nil⟩

/-- The raster position lies in the frame (60_exceptions.md R332). -/
structure Vic.InFrame (std : VideoStandard) (v : Vic) : Prop where
  raster : v.raster.toNat < std.lines
  cycleOne : 1 ≤ v.rcycle
  cycleLast : v.rcycle ≤ std.cyclesPerLine

/-- No control register holds the LOAD strobe (60_exceptions.md R352). -/
def Cia.NoStrobe (c : Cia) : Prop := c.ta.ctrl.getLsbD 4 = false ∧ c.tb.ctrl.getLsbD 4 = false

/-- A jammed CPU has no interrupt latched, and there is none under `Nop` (46_undocumented.md R262, R263). -/
def Cpu.JamAgrees (policy : IllegalPolicy) (c : Cpu) : Prop :=
  (c.jammed = true → c.intLatch = none) ∧ (policy = .nop → c.jammed = false)

/-- The Monitor, the lifecycle and `stop` agree (60_exceptions.md R380, R386). -/
structure Session.Agrees (c : Session) : Prop where
  monitor : c.lifecycle ≠ .inMonitor → c.monitor = .inactive
  inMonitor : c.lifecycle = .inMonitor → c.monitor ≠ .inactive
  released : c.released = true → c.lifecycle = .stopped

theorem State.inv_iff (s : State) : s.Inv ↔
    s.ram.Canonical 0x10000 ∧ s.colorRam.Canonical 0x400 ∧ s.vic.regs.Canonical 0x2F ∧
    s.vic.InFrame s.params.videoStandard ∧ s.cia1.NoStrobe ∧ s.cia2.NoStrobe ∧
    s.cpu.JamAgrees s.params.illegalPolicy ∧ s.session.Agrees := by
  constructor
  · intro h
    obtain ⟨a1, b1, a2, b2⟩ := h.strobes
    exact ⟨⟨h.ram, h.ramBelow⟩, ⟨h.color, h.colorBelow⟩, ⟨h.vicRegs, h.vicRegsBelow⟩,
      ⟨h.raster, h.cycleOne, h.cycleLast⟩, ⟨a1, b1⟩, ⟨a2, b2⟩, ⟨h.jammed, h.nopPolicy⟩,
      ⟨h.monitor, h.inMonitor, h.released⟩⟩
  · rintro ⟨⟨ram, ramBelow⟩, ⟨color, colorBelow⟩, ⟨vicRegs, vicRegsBelow⟩, ⟨raster, cycleOne, cycleLast⟩,
      ⟨a1, b1⟩, ⟨a2, b2⟩, ⟨jammed, nopPolicy⟩, ⟨monitor, inMonitor, released⟩⟩
    exact { ram, ramBelow, color, colorBelow, vicRegs, vicRegsBelow, raster, cycleOne, cycleLast
            strobes := ⟨a1, b1, a2, b2⟩, jammed, nopPolicy, monitor, inMonitor, released }

/-! ## The video chip -/

theorem Vic.read_regs (n : BitVec 6) (v : Vic) : (v.read n).2.regs = v.regs := by
  obtain h | h | h := Vic.read_snd n v <;> rw [h]

theorem Vic.InFrame.read {std : VideoStandard} {v : Vic} (h : v.InFrame std) (n : BitVec 6) :
    (v.read n).2.InFrame std := by
  obtain e | e | e := Vic.read_snd n v <;> rw [e] <;> exact { h with }

/-- Moving the compare value latches an interrupt at most. -/
theorem Vic.setCompare_eq (cmp : BitVec 9) (v : Vic) :
    ∃ l, v.setCompare cmp = { v with rasterCmp := cmp, irqLatch := l } := by
  unfold Vic.setCompare
  split <;> exact ⟨_, rfl⟩

/-- A write stores at most one plain register, and does not move the raster. -/
theorem Vic.write_eq (n : BitVec 6) (b : Byte) (v : Vic) : ∃ regs cmp l e, v.write n b =
    { v with regs := regs, rasterCmp := cmp, irqLatch := l, irqEnable := e } ∧
    (regs = v.regs ∨ ∃ k < 0x2F, ∃ c, regs = v.regs.write k c) := by
  unfold Vic.write
  split
  case h_1 =>
    obtain ⟨l, h⟩ := Vic.setCompare_eq (b.extractLsb' 7 1 ++ v.rasterCmp.extractLsb' 0 8) (v.store 0x11 (b &&& 0x7F))
    exact ⟨_, _, l, _, h, .inr ⟨0x11, by decide, _, rfl⟩⟩
  case h_2 =>
    obtain ⟨l, h⟩ := Vic.setCompare_eq (v.rasterCmp.extractLsb' 8 1 ++ b) v
    exact ⟨_, _, l, _, h, .inl rfl⟩
  case h_7 =>
    split
    · exact ⟨_, _, _, _, rfl, .inl rfl⟩
    · exact ⟨_, _, _, _, rfl, .inr ⟨n.toNat, by omega, b, rfl⟩⟩
  all_goals exact ⟨_, _, _, _, rfl, .inl rfl⟩

theorem Vic.InFrame.write {std : VideoStandard} {v : Vic} (h : v.InFrame std) (n : BitVec 6) (b : Byte) :
    (v.write n b).InFrame std := by
  obtain ⟨_, _, _, _, e, -⟩ := Vic.write_eq n b v
  rw [e]
  exact { h with }

theorem Vic.canonical_write {v : Vic} (h : v.regs.Canonical 0x2F) (n : BitVec 6) (b : Byte) :
    (v.write n b).regs.Canonical 0x2F := by
  obtain ⟨_, _, _, _, e, rfl | ⟨k, hk, c, rfl⟩⟩ := Vic.write_eq n b v <;> rw [e]
  · exact h
  · exact h.write hk c

theorem Vic.noteDen_eq (v : Vic) : ∃ d, v.noteDen = { v with denSeen := d } := by
  unfold Vic.noteDen
  split <;> exact ⟨_, rfl⟩

theorem Vic.compareRaster_eq (v : Vic) : ∃ l, v.compareRaster = { v with irqLatch := l } := by
  rw [Vic.compareRaster]
  by_cases h : v.raster = v.rasterCmp ∧ v.rcycle = (if v.raster = 0 then 2 else 1)
  · exact ⟨_, if_pos h⟩
  · exact ⟨v.irqLatch, if_neg h⟩

/-- A tick moves the raster as `advance` does and writes DEN's memory and the latch besides. -/
theorem Vic.tick_fst (std : VideoStandard) (v : Vic) :
    ∃ d l, (v.tick std).1 = { (v.advance std).1 with denSeen := d, irqLatch := l } := by
  obtain ⟨d, hd⟩ := Vic.noteDen_eq (v.advance std).1
  obtain ⟨l, hl⟩ := Vic.compareRaster_eq (v.advance std).1.noteDen
  exact ⟨d, l, by rw [Vic.tick, hl, hd]⟩

theorem Vic.advance_regs (std : VideoStandard) (v : Vic) : (v.advance std).1.regs = v.regs := by
  unfold Vic.advance
  split
  · rfl
  · split <;> rfl

theorem lines_lt_512 (std : VideoStandard) : std.lines < 512 := by cases std <;> decide

theorem Vic.InFrame.advance {std : VideoStandard} {v : Vic} (h : v.InFrame std) : (v.advance std).1.InFrame std := by
  have hlines : std.lines < 512 := lines_lt_512 std
  have hpos : 1 ≤ std.cyclesPerLine := h.cycleOne.trans h.cycleLast
  unfold Vic.advance
  split
  · exact ⟨h.raster, by dsimp only; omega, by assumption⟩
  split
  · exact ⟨by have := h.raster; simp; omega, le_refl 1, hpos⟩
  · rename_i hlast
    refine ⟨?_, le_refl 1, hpos⟩
    have hr := h.raster
    have : (v.raster + 1).toNat ≠ std.lines := fun e => hlast (BitVec.eq_of_toNat_eq (by
      rw [e, BitVec.toNat_ofNat, Nat.mod_eq_of_lt hlines]))
    simp only [BitVec.toNat_add] at this ⊢
    simp at this ⊢
    omega

theorem Vic.InFrame.tick {std : VideoStandard} {v : Vic} (h : v.InFrame std) : (v.tick std).1.InFrame std := by
  obtain ⟨d, l, e⟩ := Vic.tick_fst std v
  rw [e]
  exact { h.advance with }

theorem Vic.tick_regs (std : VideoStandard) (v : Vic) : (v.tick std).1.regs = v.regs := by
  obtain ⟨d, l, e⟩ := Vic.tick_fst std v
  rw [e]
  exact Vic.advance_regs std v

/-! ## The I/O timer chips -/

theorem Cia.NoStrobe.read {c : Cia} (h : c.NoStrobe) (n : BitVec 4) (extA extB : Byte) :
    (c.read n extA extB).2.NoStrobe := by
  obtain e | e | ⟨_, _, e⟩ := Cia.read_snd n extA extB c <;> rw [e] <;> exact h

theorem Timer.writeCtrl_load (v : Byte) (t : Timer) : (t.writeCtrl v).ctrl.getLsbD 4 = false := by
  simp [Timer.writeCtrl]

/-- A tick clears bits of the control register at most. -/
theorem Timer.tick_load {t : Timer} (count : Bool) (h : t.ctrl.getLsbD 4 = false) :
    (t.tick count).ctrl.getLsbD 4 = false := by
  unfold Timer.tick
  split
  · split
    · dsimp only
      split
      · rw [BitVec.getLsbD_and, h, Bool.false_and]
      · exact h
    · exact h
  · exact h

/-- Recording an event changes the interrupt registers only. -/
theorem Cia.updateIr_eq (c : Cia) : ∃ ir, c.updateIr = { c with ir := ir } := by
  unfold Cia.updateIr
  split <;> exact ⟨_, rfl⟩

theorem Cia.flag_eq (bits : BitVec 5) (c : Cia) :
    ∃ data ir, c.flag bits = { c with icrData := data, ir := ir } := by
  obtain ⟨ir, h⟩ := Cia.updateIr_eq { c with icrData := c.icrData ||| bits }
  exact ⟨_, ir, h⟩

theorem Cia.setTod_eq (t : Tod) (c : Cia) :
    ∃ data ir, c.setTod t = { c with tod := t, icrData := data, ir := ir } := by
  unfold Cia.setTod
  dsimp only
  split
  · obtain ⟨data, ir, h⟩ := Cia.flag_eq 0x04 { c with tod := t }
    exact ⟨data, ir, h⟩
  · exact ⟨_, _, rfl⟩

theorem Cia.serialTick_eq (c : Cia) :
    ∃ left data ir, c.serialTick = { c with sdrLeft := left, icrData := data, ir := ir } := by
  unfold Cia.serialTick
  split
  · dsimp only
    split
    · obtain ⟨data, ir, h⟩ := Cia.flag_eq 0x08 { c with sdrLeft := c.sdrLeft - 1 }
      exact ⟨_, data, ir, h⟩
    · exact ⟨_, _, _, rfl⟩
  · exact ⟨_, _, _, rfl⟩

theorem Cia.NoStrobe.flag {c : Cia} (h : c.NoStrobe) (bits : BitVec 5) : (c.flag bits).NoStrobe := by
  obtain ⟨_, _, e⟩ := Cia.flag_eq bits c
  rw [e]
  exact h

theorem Cia.NoStrobe.setTod {c : Cia} (h : c.NoStrobe) (t : Tod) : (c.setTod t).NoStrobe := by
  obtain ⟨_, _, e⟩ := Cia.setTod_eq t c
  rw [e]
  exact h

theorem Cia.NoStrobe.serialTick {c : Cia} (h : c.NoStrobe) : c.serialTick.NoStrobe := by
  obtain ⟨_, _, _, e⟩ := Cia.serialTick_eq c
  rw [e]
  exact h

theorem Cia.NoStrobe.writeMask {c : Cia} (h : c.NoStrobe) (v : Byte) : (c.writeMask v).NoStrobe := by
  unfold Cia.writeMask
  obtain ⟨_, e⟩ := Cia.updateIr_eq _
  dsimp only
  rw [e]
  exact h

theorem Cia.NoStrobe.writeTod {c : Cia} (h : c.NoStrobe) (n : Nat) (v : Byte) : (c.writeTod n v).NoStrobe := by
  unfold Cia.writeTod
  split
  · exact h.setTod _
  · exact h.setTod _

theorem Cia.NoStrobe.write {c : Cia} (h : c.NoStrobe) (n : BitVec 4) (v : Byte) : (c.write n v).NoStrobe := by
  unfold Cia.write
  split
  case h_10 => exact h.writeMask v
  case h_11 => exact ⟨Timer.writeCtrl_load v c.ta, h.2⟩
  case h_12 => exact ⟨h.1, Timer.writeCtrl_load v c.tb⟩
  case h_13 => exact h.writeTod _ v
  all_goals exact h

theorem Cia.NoStrobe.tickA {c : Cia} (h : c.NoStrobe) : c.tickA.NoStrobe := by
  have ht : Cia.NoStrobe { c with ta := c.ta.tick (!c.ta.ctrl.getLsbD 5) } := ⟨Timer.tick_load _ h.1, h.2⟩
  unfold Cia.tickA
  dsimp only
  split
  · exact ht.flag 0x01
  · exact ht

theorem Cia.NoStrobe.tickB {c : Cia} (h : c.NoStrobe) : c.tickB.NoStrobe := by
  have ht (count : Bool) : Cia.NoStrobe (if (c.tb.tick count).underflowed then
      Cia.flag 0x02 { c with tb := c.tb.tick count } else { c with tb := c.tb.tick count }) := by
    have hb : Cia.NoStrobe { c with tb := c.tb.tick count } := ⟨h.1, Timer.tick_load count h.2⟩
    split
    · exact hb.flag 0x02
    · exact hb
  unfold Cia.tickB
  dsimp only
  split <;> exact ht _

theorem Cia.NoStrobe.tick {c : Cia} (h : c.NoStrobe) (std : VideoStandard) : (c.tick std).NoStrobe :=
  h.tickA.tickB.serialTick.setTod _

end Sys2Proof.Machine

namespace Sys2Proof.Machine

/-! # The reset sequence (70_reset_and_hazards.md R401)

Of its seven reads only the first two, at PC, can reach a device: the stack is RAM, and with the port clear the reset
vector lies in the KERNAL ROM. -/

/-- A byte of the KERNAL ROM. -/
theorem State.busRead_kernal (a : Word) (s : State) (h : s.store a = .kernal) :
    s.busRead a = (Config.romKernal (a.extractLsb' 0 13), s) := by
  simp only [State.busRead, h]

/-- With the port clear the KERNAL ROM answers at the reset vector. -/
theorem State.store_resetVector (s : State) (hddr : s.ddr = 0) (hpr : s.pr = 0) :
    s.store 0xFFFC = .kernal ∧ s.store 0xFFFD = .kernal := by
  rw [State.store, State.store, State.bank, hddr, hpr]
  exact ⟨rfl, rfl⟩

/-- The word at the reset vector, in the KERNAL ROM. -/
def resetPc : Word := wordOf (Config.romKernal 0x1FFD) (Config.romKernal 0x1FFC)

theorem jumpThrough_resetVector (s : State) (hddr : s.ddr = 0) (hpr : s.pr = 0) : jumpThrough resetVector s =
    ((s.log (.read 0xFFFC (Config.romKernal 0x1FFC))).log (.read 0xFFFD (Config.romKernal 0x1FFD))).setPc resetPc := by
  have lo : s.busRead 0xFFFC = (Config.romKernal 0x1FFC, s) :=
    s.busRead_kernal 0xFFFC (s.store_resetVector hddr hpr).1
  have hi (e : BusAccess) : (s.log e).busRead 0xFFFD = (Config.romKernal 0x1FFD, s.log e) :=
    (s.log e).busRead_kernal 0xFFFD ((s.log e).store_resetVector hddr hpr).2
  have next : resetVector + 1 = 0xFFFD := rfl
  simp only [jumpThrough, readWord, memRead, next]
  simp only [resetVector, lo, hi, resetPc]

/-- A suppressed push reads the stack and moves S. -/
theorem suppressedPush_eq (s : State) : suppressedPush s =
    (s.log (.read (stackAddr s.cpu.s) (s.ram.read (stackAddr s.cpu.s).toNat))).setS (s.cpu.s - 1) := by
  simp [suppressedPush, dummyStack_eq]

/-- What a reset begins with: the draws of a hard one, and none of a soft one. -/
def resetDraws (hard : Bool) (s : State) : State := if hard then powerOn s else s

/-- The draws go into A, X, Y, S, the flags other than I, RAM and colour RAM, and into nothing else. -/
theorem resetDraws_eq (hard : Bool) (s : State) : resetDraws hard s = { s with
    cpu :=
      { s.cpu with
        a := (resetDraws hard s).cpu.a, x := (resetDraws hard s).cpu.x, y := (resetDraws hard s).cpu.y
        s := (resetDraws hard s).cpu.s, p := { (resetDraws hard s).cpu.p with i := s.cpu.p.i } }
    ram := (resetDraws hard s).ram
    colorRam := (resetDraws hard s).colorRam } := by
  cases hard <;> rfl

/-- The machine after the first two reads of the sequence, which are made at PC. -/
def resetReads (hard : Bool) (s : State) : State := dummyPc (dummyPc (clearHardware (resetDraws hard s)))

@[simp] theorem resetReads_cpu (hard : Bool) (s : State) : (resetReads hard s).cpu =
    { (resetDraws hard s).cpu with jammed := false, intLatch := none, nmiPending := false, nmiPrev := false } := by
  simp [resetReads, clearHardware]
@[simp] theorem resetReads_ddr (hard : Bool) (s : State) : (resetReads hard s).ddr = 0 := by
  simp [resetReads, dummyPc, clearHardware]
@[simp] theorem resetReads_pr (hard : Bool) (s : State) : (resetReads hard s).pr = 0 := by
  simp [resetReads, dummyPc, clearHardware]
@[simp] theorem resetReads_ram (hard : Bool) (s : State) : (resetReads hard s).ram = (resetDraws hard s).ram := by
  simp [resetReads, dummyPc, clearHardware]
@[simp] theorem resetReads_colorRam (hard : Bool) (s : State) :
    (resetReads hard s).colorRam = (resetDraws hard s).colorRam := by
  simp [resetReads, dummyPc, clearHardware]
@[simp] theorem resetReads_sid (hard : Bool) (s : State) :
    (resetReads hard s).sid = { Sid.afterReset with draws := s.sid.draws } := by
  simp only [resetReads, dummyPc, dummyRead_sid, clearHardware]
  rw [resetDraws_eq]
@[simp] theorem resetReads_session (hard : Bool) (s : State) : (resetReads hard s).session = s.session := by
  simp only [resetReads, dummyPc, dummyRead_session, clearHardware]
  rw [resetDraws_eq]
@[simp] theorem resetReads_cycle (hard : Bool) (s : State) : (resetReads hard s).cycle = 0 := by
  simp [resetReads, dummyPc, clearHardware]
@[simp] theorem resetReads_diag (hard : Bool) (s : State) : (resetReads hard s).diag = s.diag := by
  simp only [resetReads, dummyPc, dummyRead_diag, clearHardware]
  rw [resetDraws_eq]
@[simp] theorem resetReads_params (hard : Bool) (s : State) : (resetReads hard s).params = s.params := by
  simp only [resetReads, dummyPc, dummyRead_params, clearHardware]
  rw [resetDraws_eq]

/-- The draws do not move PC. -/
theorem resetDraws_pc (hard : Bool) (s : State) : (resetDraws hard s).cpu.pc = s.cpu.pc := by
  rw [resetDraws_eq]

/-- The two reads at PC, with whatever they return. -/
theorem resetReads_trace (hard : Bool) (s : State) :
    ∃ v w, (resetReads hard s).trace = [.read s.cpu.pc v, .read s.cpu.pc w] := by
  have hpc : (clearHardware (resetDraws hard s)).cpu.pc = s.cpu.pc := resetDraws_pc hard s
  exact ⟨_, _, by rw [resetReads, dummyPc_trace, dummyPc_trace, dummyPc_cpu, hpc]; rfl⟩

/-! ## The devices after a reset -/

/-- A CIA after reset, but for the freeze of the time of day, which a read of its hours sets. -/
def Cia.QuietAfterReset (c : Cia) : Prop := ∃ latched latch,
  c = { Cia.afterReset with tod := { Tod.afterReset with latched := latched, latch := latch } }

theorem Cia.QuietAfterReset.read {c : Cia} (h : c.QuietAfterReset) (n : BitVec 4) (extA extB : Byte) :
    (c.read n extA extB).2.QuietAfterReset := by
  obtain ⟨latched, latch, rfl⟩ := h
  obtain e | e | ⟨_, _, e⟩ := Cia.read_snd n extA extB
    { Cia.afterReset with tod := { Tod.afterReset with latched := latched, latch := latch } } <;> rw [e]
  · exact ⟨_, _, rfl⟩
  · exact ⟨_, _, rfl⟩
  · exact ⟨_, _, rfl⟩

/-- The collision registers of the video chip are clear after reset, so that no read changes it. -/
theorem Vic.afterReset_read (n : BitVec 6) : (Vic.afterReset.read n).2 = Vic.afterReset := by
  obtain e | e | e := Vic.read_snd n Vic.afterReset <;> rw [e] <;> rfl

/-- The devices hold their reset values and the inputs are those of `s`, but for what a read changes. -/
structure DevicesAfterReset (s t : State) : Prop where
  vic : t.vic = Vic.afterReset
  cia1 : t.cia1.QuietAfterReset
  cia2 : t.cia2.QuietAfterReset
  input : t.input.steady = s.input.steady

theorem DevicesAfterReset.dummyRead {s t : State} (h : DevicesAfterReset s t) (a : Word) :
    DevicesAfterReset s (dummyRead a t) := by
  obtain ⟨hvic, hcia1, hcia2, hinput⟩ := State.readOf_busRead a t
  refine ⟨?_, ?_, ?_, hinput.trans h.input⟩
  · obtain e | ⟨n, e⟩ := hvic
    · exact e.trans h.vic
    · exact e.trans (by rw [h.vic, Vic.afterReset_read])
  · obtain e | ⟨n, extA, extB, e⟩ := hcia1
    · exact e ▸ h.cia1
    · exact e ▸ h.cia1.read n extA extB
  · obtain e | ⟨n, extA, extB, e⟩ := hcia2
    · exact e ▸ h.cia2
    · exact e ▸ h.cia2.read n extA extB

theorem devicesAfterReset_resetReads (hard : Bool) (s : State) : DevicesAfterReset s (resetReads hard s) := by
  have h : DevicesAfterReset s (clearHardware (resetDraws hard s)) :=
    ⟨rfl, ⟨_, _, rfl⟩, ⟨_, _, rfl⟩, by rw [resetDraws_eq]; rfl⟩
  exact (h.dummyRead _).dummyRead _

/-- The access of a read of the stack. -/
def stackRead (b : Byte) (s : State) : BusAccess := .read (stackAddr b) (s.ram.read (stackAddr b).toNat)

/-- The three suppressed pushes of the sequence. -/
theorem suppressedPushes_eq (s : State) : suppressedPush (suppressedPush (suppressedPush s)) = { s with
    cpu := { s.cpu with s := s.cpu.s - 3 }
    trace := stackRead (s.cpu.s - 2) s :: stackRead (s.cpu.s - 1) s :: stackRead s.cpu.s s :: s.trace } := by
  have two : s.cpu.s - 1 - 1 = s.cpu.s - 2 := by bv_omega
  have three : s.cpu.s - 2 - 1 = s.cpu.s - 3 := by bv_omega
  simp only [suppressedPush_eq, State.setS, State.log, stackRead, two, three]

/-- The last lines of the sequence: its seven cycles are owed, and the session runs. -/
def runAfterReset (s : State) : State :=
  { s with owed := 7, session := { s.session with lifecycle := .running, monitor := .inactive } }

/-- The whole sequence: after the two reads at PC it moves S by three, sets I, jumps through the reset vector and sets
the session running. -/
theorem resetSequence_eq (hard : Bool) (s : State) :
    resetSequence hard s = runAfterReset { resetReads hard s with
      cpu :=
        { (resetReads hard s).cpu with
          s := (resetReads hard s).cpu.s - 3, p := { (resetReads hard s).cpu.p with i := true }, pc := resetPc }
      trace := [.read 0xFFFD (Config.romKernal 0x1FFD), .read 0xFFFC (Config.romKernal 0x1FFC),
        stackRead ((resetReads hard s).cpu.s - 2) (resetReads hard s),
        stackRead ((resetReads hard s).cpu.s - 1) (resetReads hard s),
        stackRead (resetReads hard s).cpu.s (resetReads hard s)] ++ (resetReads hard s).trace } := by
  have hjump := jumpThrough_resetVector
    ((suppressedPush (suppressedPush (suppressedPush (resetReads hard s)))).setI true)
    (by simp [suppressedPush_eq]) (by simp [suppressedPush_eq])
  rw [suppressedPushes_eq] at hjump
  change runAfterReset (jumpThrough resetVector
    ((suppressedPush (suppressedPush (suppressedPush (resetReads hard s)))).setI true)) = _
  rw [suppressedPushes_eq, hjump]
  simp only [State.setI, State.setP, State.log, State.setPc, List.cons_append, List.nil_append]

/-- Every access of the sequence is a read, at the addresses of R401, latest first. -/
theorem resetSequence_trace (hard : Bool) (s : State) :
    (resetSequence hard s).trace.map BusAccess.addr =
      [0xFFFD, 0xFFFC, stackAddr ((resetDraws hard s).cpu.s - 2), stackAddr ((resetDraws hard s).cpu.s - 1),
        stackAddr (resetDraws hard s).cpu.s, s.cpu.pc, s.cpu.pc] ∧
    ∀ e ∈ (resetSequence hard s).trace, ∃ a v, e = .read a v := by
  obtain ⟨v, w, h⟩ := resetReads_trace hard s
  rw [resetSequence_eq, h]
  simp [runAfterReset, stackRead, BusAccess.addr]

@[simp] theorem resetSequence_cpu (hard : Bool) (s : State) : (resetSequence hard s).cpu =
    { (resetDraws hard s).cpu with
      s := (resetDraws hard s).cpu.s - 3, p := { (resetDraws hard s).cpu.p with i := true }, pc := resetPc
      jammed := false, intLatch := none, nmiPending := false, nmiPrev := false } := by
  rw [resetSequence_eq, resetReads_cpu, runAfterReset]
@[simp] theorem resetSequence_ddr (hard : Bool) (s : State) : (resetSequence hard s).ddr = 0 := by
  rw [resetSequence_eq, runAfterReset, resetReads_ddr]
@[simp] theorem resetSequence_pr (hard : Bool) (s : State) : (resetSequence hard s).pr = 0 := by
  rw [resetSequence_eq, runAfterReset, resetReads_pr]
@[simp] theorem resetSequence_ram (hard : Bool) (s : State) :
    (resetSequence hard s).ram = (resetDraws hard s).ram := by
  rw [resetSequence_eq, runAfterReset, resetReads_ram]
@[simp] theorem resetSequence_colorRam (hard : Bool) (s : State) :
    (resetSequence hard s).colorRam = (resetDraws hard s).colorRam := by
  rw [resetSequence_eq, runAfterReset, resetReads_colorRam]
@[simp] theorem resetSequence_sid (hard : Bool) (s : State) :
    (resetSequence hard s).sid = { Sid.afterReset with draws := s.sid.draws } := by
  rw [resetSequence_eq, runAfterReset, resetReads_sid]
@[simp] theorem resetSequence_session (hard : Bool) (s : State) :
    (resetSequence hard s).session = { s.session with lifecycle := .running, monitor := .inactive } := by
  rw [resetSequence_eq, runAfterReset, resetReads_session]
@[simp] theorem resetSequence_cycle (hard : Bool) (s : State) : (resetSequence hard s).cycle = 0 := by
  rw [resetSequence_eq, runAfterReset, resetReads_cycle]
@[simp] theorem resetSequence_diag (hard : Bool) (s : State) : (resetSequence hard s).diag = s.diag := by
  rw [resetSequence_eq, runAfterReset, resetReads_diag]
@[simp] theorem resetSequence_params (hard : Bool) (s : State) : (resetSequence hard s).params = s.params := by
  rw [resetSequence_eq, runAfterReset, resetReads_params]
@[simp] theorem resetSequence_owed (hard : Bool) (s : State) : (resetSequence hard s).owed = 7 := by
  rw [resetSequence_eq, runAfterReset]

theorem devicesAfterReset_resetSequence (hard : Bool) (s : State) : DevicesAfterReset s (resetSequence hard s) := by
  obtain ⟨vic, cia1, cia2, input⟩ := devicesAfterReset_resetReads hard s
  rw [resetSequence_eq]
  constructor <;> simpa only [runAfterReset]

/-- A hard reset leads to the registers of the machine right after power-on (logs 1 and 2). -/
theorem resetSequence_hard_cpu (s : State) : (resetSequence true s).cpu = State.reset.cpu := by
  rw [resetSequence_cpu]
  rfl

theorem Cia.QuietAfterReset.steady {c : Cia} (h : c.QuietAfterReset) : c.steady = Cia.afterReset.steady := by
  obtain ⟨_, _, rfl⟩ := h
  rfl

/-- The values of 60_exceptions.md R369 for a CIA. -/
theorem Cia.QuietAfterReset.values {c : Cia} (h : c.QuietAfterReset) :
    c.pra = 0 ∧ c.prb = 0 ∧ c.ddra = 0 ∧ c.ddrb = 0 ∧ c.icrData = 0 ∧ c.icrMask = 0 ∧ c.ir = false ∧ c.sdr = 0 ∧
    (∀ r ∈ [c.ta, c.tb], r.counter = 0xFFFF ∧ r.latch = 0xFFFF ∧ r.ctrl = 0 ∧
      r.underflowed = false ∧ r.toggle = false) ∧
    c.tod.clock = { hours := 0x01, minutes := 0x00, seconds := 0x00, tenths := 0x0 } ∧
    c.tod.alarm = { hours := 0x00, minutes := 0x00, seconds := 0x00, tenths := 0x0 } ∧
    c.tod.stopped = false ∧ c.tod.phase = 0 ∧ c.tod.ticks = 0 ∧ c.sdrLeft = 0 := by
  obtain ⟨_, _, rfl⟩ := h
  simp [Cia.afterReset, Timer.afterReset, Tod.afterReset, ClockTime.zero]

/-- Settles O46: the laws of each field of the state after the sequence, in the order of the clauses. -/
theorem resetSequenceOfTheCpu : Obligations.ResetSequenceOfTheCpu := by
  intro s hard t u
  obtain ⟨haddr, hread⟩ := resetSequence_trace hard s
  obtain ⟨hvic, hcia1, hcia2, hinput⟩ := devicesAfterReset_resetSequence hard s
  have hcpu : t.cpu = { u.cpu with
      s := u.cpu.s - 3, p := { u.cpu.p with i := true }, pc := resetPc
      jammed := false, intLatch := none, nmiPending := false, nmiPrev := false } := resetSequence_cpu hard s
  have hsid : t.sid = { Sid.afterReset with draws := s.sid.draws } := resetSequence_sid hard s
  have hsession : t.session = { s.session with lifecycle := .running, monitor := .inactive } :=
    resetSequence_session hard s
  have hddr : t.ddr = 0 := resetSequence_ddr hard s
  have hpr : t.pr = 0 := resetSequence_pr hard s
  have hram : t.ram = u.ram := resetSequence_ram hard s
  have hcolor : t.colorRam = u.colorRam := resetSequence_colorRam hard s
  refine ⟨by rw [hcpu], by rw [hcpu], by rw [hcpu], by rw [hcpu], by rw [hcpu], hram, hcolor,
    by rw [hcpu], by rw [hcpu], by rw [hcpu], by rw [hcpu], hddr, hpr, by rw [State.bank, hddr, hpr]; rfl,
    by rw [hcpu]; rfl, haddr, hread, resetSequence_owed hard s, hvic, ?_, ?_,
    by rw [hsid]; rfl, by rw [hsid]; rfl, by rw [hsid]; rfl, by rw [hsid]; rfl, hcia1.steady, hcia2.steady, hsid,
    by rw [hsession], resetSequence_cycle hard s, hinput, resetSequence_diag hard s, resetSequence_params hard s,
    by rw [hsession], resetDraws_eq hard s, ?_⟩
  case refine_1 =>
    intro c hc
    obtain rfl | rfl : c = t.cia1 ∨ c = t.cia2 := by simpa using hc
    · exact hcia1.values
    · exact hcia2.values
  case refine_2 =>
    intro v hv
    obtain rfl : v = Voice.afterReset := by simpa [hsid, Sid.afterReset] using hv
    exact ⟨rfl, rfl, rfl, rfl, rfl, rfl, rfl, rfl, rfl⟩
  case refine_3 =>
    rintro rfl
    have hpower : t.cpu = State.reset.cpu := resetSequence_hard_cpu s
    exact ⟨by rw [hpower]; rfl, by rw [hpower]; rfl, by rw [hpower]; rfl, by rw [hpower]; rfl, by rw [hpower]; rfl,
      hram, hcolor, hpower, hram, hcolor, hddr, hpr, resetSequence_cycle true s, resetSequence_owed true s⟩

end Sys2Proof.Machine

namespace Sys2Proof.Machine

/-! # Operations that keep the invariant

`KeepsInv s t`: what leads from `s` to `t` keeps the invariant and moves the session to no other lifecycle state. Each
operation extends such a path by one step, so that the proof about a composed operation names its parts in the order in
which they are made. -/

structure KeepsInv (s t : State) : Prop where
  inv : s.Inv → t.Inv
  lifecycle : t.session.lifecycle = s.session.lifecycle

@[refl] theorem KeepsInv.refl (s : State) : KeepsInv s s := ⟨id, rfl⟩

@[trans] theorem KeepsInv.trans {s t u : State} (h : KeepsInv s t) (h' : KeepsInv t u) : KeepsInv s u :=
  ⟨fun i => h'.inv (h.inv i), h'.lifecycle.trans h.lifecycle⟩

/-! ## Accesses -/

theorem State.Inv.busRead {s : State} (h : s.Inv) (a : Word) : (s.busRead a).2.Inv := by
  obtain ⟨ram, color, regs, frame, cia1, cia2, cpu, session⟩ := s.inv_iff.1 h
  obtain ⟨hvic, hcia1, hcia2, -⟩ := State.readOf_busRead a s
  rw [State.inv_iff, State.busRead_ram, State.busRead_colorRam, State.busRead_params, State.busRead_cpu,
    State.busRead_session]
  refine ⟨ram, color, ?_, ?_, ?_, ?_, cpu, session⟩
  · obtain e | ⟨n, e⟩ := hvic <;> rw [e]
    · exact regs
    · rw [Vic.read_regs]; exact regs
  · obtain e | ⟨n, e⟩ := hvic <;> rw [e]
    · exact frame
    · exact frame.read n
  · obtain e | ⟨n, _, _, e⟩ := hcia1 <;> rw [e]
    · exact cia1
    · exact cia1.read n _ _
  · obtain e | ⟨n, _, _, e⟩ := hcia2 <;> rw [e]
    · exact cia2
    · exact cia2.read n _ _

theorem State.Inv.writeRam {s : State} (h : s.Inv) (a : Word) (v : Byte) : (s.writeRam a v).Inv := by
  have hram : (s.ram.write a.toNat v).Canonical 0x10000 := Memory.Canonical.write ⟨h.ram, h.ramBelow⟩ a.isLt v
  exact { h with ram := hram.1, ramBelow := hram.2 }

theorem State.Inv.ioWrite {s : State} (h : s.Inv) (a : Word) (v : Byte) : (s.ioWrite a v).Inv := by
  obtain ⟨ram, color, regs, frame, cia1, cia2, cpu, session⟩ := s.inv_iff.1 h
  unfold State.ioWrite
  split
  case h_1 =>
    exact (State.inv_iff _).2
      ⟨ram, color, Vic.canonical_write regs _ v, frame.write _ v, cia1, cia2, cpu, session⟩
  case h_2 => exact { h with }
  case h_3 =>
    exact (State.inv_iff _).2 ⟨ram, color.write (BitVec.isLt _) _, regs, frame, cia1, cia2, cpu, session⟩
  case h_4 => exact (State.inv_iff _).2 ⟨ram, color, regs, frame, cia1.write _ v, cia2, cpu, session⟩
  case h_5 => exact (State.inv_iff _).2 ⟨ram, color, regs, frame, cia1, cia2.write _ v, cpu, session⟩
  case h_6 => exact h

theorem State.Inv.writeUnderRom {s : State} (h : s.Inv) (a : Word) (v : Byte) : (s.writeUnderRom a v).Inv := by
  unfold State.writeUnderRom
  split
  · exact h.writeRam a v
  · exact h

theorem State.Inv.busWrite {s : State} (h : s.Inv) (a : Word) (v : Byte) : (s.busWrite a v).Inv := by
  unfold State.busWrite
  split
  case h_1 => exact { h with }
  case h_2 => exact { h with }
  case h_3 => exact h.writeRam a v
  case h_7 => exact h.ioWrite a v
  all_goals exact h.writeUnderRom a v

/-! ## Registers, counters and accesses, each after a path that keeps the invariant -/

namespace KeepsInv

variable {s t : State} (h : KeepsInv s t) {v : Byte} {a : Word}
include h

theorem setA : KeepsInv s (t.setA v) := h.trans ⟨fun i => { i with }, rfl⟩
theorem setX : KeepsInv s (t.setX v) := h.trans ⟨fun i => { i with }, rfl⟩
theorem setY : KeepsInv s (t.setY v) := h.trans ⟨fun i => { i with }, rfl⟩
theorem setS : KeepsInv s (t.setS v) := h.trans ⟨fun i => { i with }, rfl⟩
theorem setPc : KeepsInv s (t.setPc a) := h.trans ⟨fun i => { i with }, rfl⟩
theorem setP {p : Flags} : KeepsInv s (t.setP p) := h.trans ⟨fun i => { i with }, rfl⟩
theorem setNZ : KeepsInv s (t.setNZ v) := h.setP
theorem setC {c : Bool} : KeepsInv s (t.setC c) := h.setP
theorem setI {i : Bool} : KeepsInv s (t.setI i) := h.setP
theorem loadA : KeepsInv s (t.loadA v) := h.setA.setNZ
theorem loadX : KeepsInv s (t.loadX v) := h.setX.setNZ
theorem loadY : KeepsInv s (t.loadY v) := h.setY.setNZ
theorem setAlu {o : AluResult} : KeepsInv s (t.setAlu o) := h.setA.setP
theorem countUnstable : KeepsInv s t.countUnstable := h.trans ⟨fun i => { i with }, rfl⟩
theorem diagnostic {op : Byte} : KeepsInv s (diagnostic a op t) := h.trans ⟨fun i => { i with }, rfl⟩
theorem emit {e : HostEvent} : KeepsInv s (t.emit e) :=
  h.trans ⟨fun i => { i with }, rfl⟩

theorem memRead : KeepsInv s (memRead a t).2 :=
  h.trans ⟨fun i => { i.busRead a with }, congrArg Session.lifecycle (memRead_session a t)⟩

theorem memWrite : KeepsInv s (memWrite a v t) :=
  h.trans ⟨fun i => { i.busWrite a v with }, congrArg Session.lifecycle (memWrite_session a v t)⟩

theorem dummyRead : KeepsInv s (dummyRead a t) := h.memRead
theorem dummyPc : KeepsInv s (dummyPc t) := h.dummyRead
theorem dummyStack : KeepsInv s (dummyStack t) := h.dummyRead
theorem fetch8 : KeepsInv s (fetch8 t).2 := h.memRead.setPc
theorem push : KeepsInv s (push v t) := h.memWrite.setS
theorem pull : KeepsInv s (pull t).2 := h.setS.memRead
theorem pushWord : KeepsInv s (pushWord a t) := h.push.push
theorem pullWord : KeepsInv s (pullWord t).2 := h.pull.pull
theorem pullFlags : KeepsInv s (pullFlags t) := h.pull.setP
theorem readWord : KeepsInv s (readWord a t).2 := h.memRead.memRead
theorem jumpThrough : KeepsInv s (jumpThrough a t) := h.readWord.setPc
theorem enterHandler {brk : Bool} : KeepsInv s (enterHandler a brk t) := h.pushWord.push.setI.jumpThrough
theorem raiseInterrupt {k : Interrupt} : KeepsInv s (raiseInterrupt k t) := h.dummyPc.dummyPc.enterHandler
theorem returnFromHandler : KeepsInv s (returnFromHandler t) := h.pullFlags.pullWord.setPc

/-! ## Operands -/

theorem readPointer : KeepsInv s (readPointer v t).2 := h.memRead.memRead

theorem indexed {k : AccessKind} : KeepsInv s (indexed k a v t).2 := by
  obtain e | e := indexed_state k a v t <;> rw [e]
  · exact h
  · exact h.dummyRead

theorem resolve {k : AccessKind} {m : MemMode} : KeepsInv s (resolve k m t).2 := by
  cases m with
  | zp | abs => exact h
  | zpx | zpy => exact h.dummyRead
  | abx | aby => exact h.indexed
  | izx => exact h.dummyRead.readPointer
  | izy => exact h.readPointer.indexed

theorem readOperand {src : Src} : KeepsInv s (readOperand src t).2 := by
  cases src with
  | imm => exact h
  | mem => exact h.resolve.memRead

theorem writeOperand {m : MemMode} : KeepsInv s (writeOperand m v t) := h.resolve.memWrite
theorem modifyAt {f : ByteOp} : KeepsInv s (modifyAt a f t).2 := h.memRead.memWrite.setC.memWrite
theorem modify {m : MemMode} {f : ByteOp} : KeepsInv s (modify m f t).2 := h.resolve.modifyAt
theorem unstableStore {m : MemMode} : KeepsInv s (unstableStore v m t) := h.resolve.countUnstable.memWrite

theorem nopAccess {form : NopForm} : KeepsInv s (nopAccess form t) := by
  cases form with
  | imp => exact h.dummyPc
  | imm => exact h
  | mem => exact h.readOperand

/-! ## The chipset's tick and the cycles paid for (60_exceptions.md R330, R331) -/

theorem sampleNmi : KeepsInv s (sampleNmi t) := h.trans ⟨fun i => { i with }, rfl⟩

theorem tickVic : KeepsInv s (tickVic t) := by
  have hv : KeepsInv s { t with vic := (t.vic.tick t.params.videoStandard).1 } := by
    refine h.trans ⟨fun i => ?_, rfl⟩
    obtain ⟨ram, color, regs, frame, cia1, cia2, cpu, session⟩ := t.inv_iff.1 i
    exact (State.inv_iff _).2
      ⟨ram, color, (Vic.tick_regs _ t.vic).symm ▸ regs, frame.tick, cia1, cia2, cpu, session⟩
  unfold Machine.tickVic
  dsimp only
  split
  · exact hv.emit
  · exact hv

theorem tickCias : KeepsInv s (tickCias t) := by
  refine h.trans ⟨fun i => ?_, rfl⟩
  obtain ⟨ram, color, regs, frame, cia1, cia2, cpu, session⟩ := t.inv_iff.1 i
  exact (State.inv_iff _).2 ⟨ram, color, regs, frame, cia1.tick _, cia2.tick _, cpu, session⟩

theorem tickSid : KeepsInv s (tickSid t) := by
  have hs : KeepsInv s { t with sid := (t.sid.tick t.params.videoStandard t.params.audioRate).1 } :=
    h.trans ⟨fun i => { i with }, rfl⟩
  unfold Machine.tickSid
  dsimp only
  split
  · exact hs.emit
  · exact hs

theorem tickCycle : KeepsInv s (tickCycle t) :=
  h.tickVic.tickCias.tickSid.sampleNmi.trans ⟨fun i => { i with }, rfl⟩

theorem payCycle (bound : Nat) : KeepsInv s (payCycle bound t) := by
  induction bound generalizing t with
  | zero => exact h.tickCycle
  | succ bound ih =>
    unfold Machine.payCycle
    split
    · exact ih h.tickCycle
    · exact h.tickCycle

theorem tickFor (n : Nat) : KeepsInv s (tickFor n t) := by
  induction n generalizing t with
  | zero => exact h
  | succ n ih => exact ih (h.payCycle stealBound)

theorem payOwed : KeepsInv s (payOwed t) := (h.tickFor t.owed).trans ⟨fun i => { i with }, rfl⟩

end KeepsInv

end Sys2Proof.Machine

namespace Sys2Proof.Machine

/-! # Every instruction and every step of the CPU keep the invariant -/

namespace KeepsInv

section
variable {s t : State} (h : KeepsInv s t) {v : Byte}
include h

/-! ## Loads, stores and transfers (40_load_store_transfer.md) -/

theorem opLda {src : Src} : KeepsInv s (opLda src t) := h.readOperand.loadA
theorem opLdx {src : Src} : KeepsInv s (opLdx src t) := h.readOperand.loadX
theorem opLdy {src : Src} : KeepsInv s (opLdy src t) := h.readOperand.loadY
theorem opSta {m : MemMode} : KeepsInv s (opSta m t) := h.writeOperand
theorem opStx {m : MemMode} : KeepsInv s (opStx m t) := h.writeOperand
theorem opSty {m : MemMode} : KeepsInv s (opSty m t) := h.writeOperand
theorem opTax : KeepsInv s (opTax t) := h.dummyPc.loadX
theorem opTay : KeepsInv s (opTay t) := h.dummyPc.loadY
theorem opTxa : KeepsInv s (opTxa t) := h.dummyPc.loadA
theorem opTya : KeepsInv s (opTya t) := h.dummyPc.loadA
theorem opTsx : KeepsInv s (opTsx t) := h.dummyPc.loadX
theorem opTxs : KeepsInv s (opTxs t) := h.dummyPc.setS

/-! ## The stack and the flags (41_stack.md, 45_flags_system.md) -/

theorem opPha : KeepsInv s (opPha t) := h.dummyPc.push
theorem opPhp : KeepsInv s (opPhp t) := h.dummyPc.push
theorem opPla : KeepsInv s (opPla t) := h.dummyPc.dummyStack.pull.loadA
theorem opPlp : KeepsInv s (opPlp t) := h.dummyPc.dummyStack.pullFlags
theorem opFlag {f : Flags → Flags} : KeepsInv s (opFlag f t) := h.dummyPc.setP
theorem opNop : KeepsInv s (opNop t) := h.dummyPc
theorem opBrk : KeepsInv s (opBrk t) := h.fetch8.enterHandler
theorem opRti : KeepsInv s (opRti t) := h.dummyPc.dummyStack.returnFromHandler

/-! ## Branches and jumps (44_branch_jump.md) -/

theorem opJmp {w : Word} : KeepsInv s (opJmp w t) := h.setPc
theorem opJmpInd {w : Word} : KeepsInv s (opJmpInd w t) := h.memRead.memRead.setPc
theorem opJsr {w : Word} : KeepsInv s (opJsr w t) := h.dummyStack.pushWord.memRead.setPc
theorem opRts : KeepsInv s (opRts t) := h.dummyPc.dummyStack.pullWord.setPc.dummyPc.setPc

theorem opBranch {cond : Bool} : KeepsInv s (opBranch cond v t) := by
  unfold Machine.opBranch
  split
  · dsimp only
    split
    · exact h.dummyPc.setPc
    · exact h.dummyPc.dummyRead.setPc
  · exact h

/-! ## Arithmetic and logic (42_arithmetic.md, 43_logic_shift.md) -/

theorem opAdc {src : Src} : KeepsInv s (opAdc src t) := h.readOperand.setAlu
theorem opSbc {src : Src} : KeepsInv s (opSbc src t) := h.readOperand.setAlu
theorem opCompare {reg : Cpu → Byte} {src : Src} : KeepsInv s (opCompare reg src t) := h.readOperand.setP
theorem opInx : KeepsInv s (opInx t) := h.dummyPc.loadX
theorem opIny : KeepsInv s (opIny t) := h.dummyPc.loadY
theorem opDex : KeepsInv s (opDex t) := h.dummyPc.loadX
theorem opDey : KeepsInv s (opDey t) := h.dummyPc.loadY
theorem opLogic {f : Byte → Byte → Byte} {src : Src} : KeepsInv s (opLogic f src t) := h.readOperand.loadA
theorem opBit {src : Src} : KeepsInv s (opBit src t) := h.readOperand.setP
theorem opShiftA {f : ByteOp} : KeepsInv s (opShiftA f t) := h.dummyPc.setC.loadA
theorem opModify {f : ByteOp} {m : MemMode} : KeepsInv s (opModify f m t) := h.modify.setNZ

/-! ## Undocumented opcodes under `Quirk` (46_undocumented.md) -/

theorem opModifyLogic {f : ByteOp} {g : Byte → Byte → Byte} {m : MemMode} : KeepsInv s (opModifyLogic f g m t) :=
  h.modify.loadA
theorem opRra {m : MemMode} : KeepsInv s (opRra m t) := h.modify.setAlu
theorem opSax {m : MemMode} : KeepsInv s (opSax m t) := h.writeOperand
theorem opLax {src : Src} : KeepsInv s (opLax src t) := h.readOperand.setA.loadX
theorem opDcp {m : MemMode} : KeepsInv s (opDcp m t) := h.modify.setP
theorem opIsc {m : MemMode} : KeepsInv s (opIsc m t) := h.modify.setAlu
theorem opAnc {d : Byte} : KeepsInv s (opAnc d t) := h.loadA.setC
theorem opAlr {d : Byte} : KeepsInv s (opAlr d t) := h.setC.loadA
theorem opArr {d : Byte} : KeepsInv s (opArr d t) := h.setAlu
theorem opSbx {d : Byte} : KeepsInv s (opSbx d t) := h.loadX.setC
theorem opLas {src : Src} : KeepsInv s (opLas src t) := h.readOperand.setA.setS.loadX
theorem opAne {d : Byte} : KeepsInv s (opAne d t) := h.countUnstable.loadA
theorem opLxa {d : Byte} : KeepsInv s (opLxa d t) := h.countUnstable.setX.loadA
theorem opSha {m : MemMode} : KeepsInv s (opSha m t) := h.unstableStore
theorem opShx {m : MemMode} : KeepsInv s (opShx m t) := h.unstableStore
theorem opShy {m : MemMode} : KeepsInv s (opShy m t) := h.unstableStore
theorem opTas {m : MemMode} : KeepsInv s (opTas m t) := h.setS.unstableStore

/-- Under `Nop` an undocumented opcode is a no-operation with a diagnostic (46_undocumented.md R263). -/
theorem undocumented {form : NopForm} {op : Byte} {quirk : State → State}
    (hq : t.params.illegalPolicy = .quirk → KeepsInv s (quirk t)) : KeepsInv s (undocumented form op quirk t) := by
  unfold Machine.undocumented
  split
  · exact hq (by assumption)
  · exact h.nopAccess.diagnostic

/-- Fetch and decode (60_exceptions.md R300). -/
theorem fetchInstr : KeepsInv s (fetchInstr t).2 := by
  unfold Machine.fetchInstr
  dsimp only
  split
  · exact h.fetch8.fetch8
  split
  · exact h.fetch8
  · exact h.fetch8.fetch8
  · exact h.fetch8.fetch8.fetch8

/-- `Retire` may latch an interrupt, so it is for a CPU that is not jammed (60_exceptions.md R300). -/
theorem retire (hj : t.cpu.jammed = false) : KeepsInv s (retire t) := by
  obtain ⟨_, _, _, e⟩ := retire_eq t
  rw [e]
  exact h.trans ⟨fun i => { i with jammed := fun hjam => absurd (hj.symm.trans hjam) Bool.false_ne_true }, rfl⟩

end

end KeepsInv

/-- JAM halts the CPU (46_undocumented.md R262): it is reached under `Quirk` alone, and with no interrupt latched. -/
theorem opJam_keepsInv {op : Byte} {s : State} (hq : s.params.illegalPolicy = .quirk) (hl : s.cpu.intLatch = none) :
    KeepsInv s (opJam op s) := by
  have h : KeepsInv s (dummyPc s) := (KeepsInv.refl s).dummyPc
  have hlatch : (dummyPc s).cpu.intLatch = none := by rw [dummyPc_cpu, hl]
  have hpolicy : (dummyPc s).params.illegalPolicy ≠ .nop := by
    rw [dummyPc, dummyRead_params, hq]
    exact IllegalPolicy.noConfusion
  have hhalt : KeepsInv s { dummyPc s with cpu := { (dummyPc s).cpu with jammed := true } } :=
    h.trans ⟨fun i => { i with jammed := fun _ => hlatch, nopPolicy := fun hn => absurd hn hpolicy }, rfl⟩
  exact hhalt.diagnostic

/-- Every instruction has a next state and keeps the invariant. -/
theorem exec_keepsInv (i : Instr) (s : State) (hl : s.cpu.intLatch = none) :
    ∃ t, exec i s = .next t ∧ KeepsInv s t := by
  have r : KeepsInv s s := .refl s
  cases i with
  | ldaIzx | ldaZp | ldaImm | ldaAbs | ldaIzy | ldaZpx | ldaAby | ldaAbx => exact ⟨_, rfl, r.opLda⟩
  | ldxImm | ldxZp | ldxAbs | ldxZpy | ldxAby => exact ⟨_, rfl, r.opLdx⟩
  | ldyImm | ldyZp | ldyAbs | ldyZpx | ldyAbx => exact ⟨_, rfl, r.opLdy⟩
  | staIzx | staZp | staAbs | staIzy | staZpx | staAby | staAbx => exact ⟨_, rfl, r.opSta⟩
  | stxZp | stxAbs | stxZpy => exact ⟨_, rfl, r.opStx⟩
  | styZp | styAbs | styZpx => exact ⟨_, rfl, r.opSty⟩
  | tax => exact ⟨_, rfl, r.opTax⟩
  | tay => exact ⟨_, rfl, r.opTay⟩
  | txa => exact ⟨_, rfl, r.opTxa⟩
  | tya => exact ⟨_, rfl, r.opTya⟩
  | tsx => exact ⟨_, rfl, r.opTsx⟩
  | txs => exact ⟨_, rfl, r.opTxs⟩
  | pha => exact ⟨_, rfl, r.opPha⟩
  | php => exact ⟨_, rfl, r.opPhp⟩
  | pla => exact ⟨_, rfl, r.opPla⟩
  | plp => exact ⟨_, rfl, r.opPlp⟩
  | clc | sec | cli | sei | clv | cld | sed => exact ⟨_, rfl, r.opFlag⟩
  | nop => exact ⟨_, rfl, r.opNop⟩
  | brk => exact ⟨_, rfl, r.opBrk⟩
  | rti => exact ⟨_, rfl, r.opRti⟩
  | jmpAbs => exact ⟨_, rfl, r.opJmp⟩
  | jmpInd => exact ⟨_, rfl, r.opJmpInd⟩
  | jsr => exact ⟨_, rfl, r.opJsr⟩
  | rts => exact ⟨_, rfl, r.opRts⟩
  | bpl | bmi | bvc | bvs | bcc | bcs | bne | beq => exact ⟨_, rfl, r.opBranch⟩
  | adcIzx | adcZp | adcImm | adcAbs | adcIzy | adcZpx | adcAby | adcAbx => exact ⟨_, rfl, r.opAdc⟩
  | sbcIzx | sbcZp | sbcImm | sbcAbs | sbcIzy | sbcZpx | sbcAby | sbcAbx => exact ⟨_, rfl, r.opSbc⟩
  | cpyImm | cpyZp | cpyAbs | cmpIzx | cmpZp | cmpImm | cmpAbs | cmpIzy | cmpZpx | cmpAby | cmpAbx | cpxImm | cpxZp
      | cpxAbs => exact ⟨_, rfl, r.opCompare⟩
  | inx => exact ⟨_, rfl, r.opInx⟩
  | iny => exact ⟨_, rfl, r.opIny⟩
  | dex => exact ⟨_, rfl, r.opDex⟩
  | dey => exact ⟨_, rfl, r.opDey⟩
  | oraIzx | oraZp | oraImm | oraAbs | oraIzy | oraZpx | oraAby | oraAbx | andIzx | andZp | andImm | andAbs | andIzy
      | andZpx | andAby | andAbx | eorIzx | eorZp | eorImm | eorAbs | eorIzy | eorZpx | eorAby | eorAbx =>
    exact ⟨_, rfl, r.opLogic⟩
  | bitZp | bitAbs => exact ⟨_, rfl, r.opBit⟩
  | aslAcc | rolAcc | lsrAcc | rorAcc => exact ⟨_, rfl, r.opShiftA⟩
  | aslZp | aslAbs | aslZpx | aslAbx | rolZp | rolAbs | rolZpx | rolAbx | lsrZp | lsrAbs | lsrZpx | lsrAbx | rorZp |
      rorAbs | rorZpx | rorAbx | decZp | decAbs | decZpx | decAbx | incZp | incAbs | incZpx | incAbx =>
    exact ⟨_, rfl, r.opModify⟩
  | sbcImmEB => exact ⟨_, rfl, r.undocumented fun _ => r.opSbc⟩
  | sloIzx | sloZp | sloAbs | sloIzy | sloZpx | sloAby | sloAbx | rlaIzx | rlaZp | rlaAbs | rlaIzy | rlaZpx | rlaAby
      | rlaAbx | sreIzx | sreZp | sreAbs | sreIzy | sreZpx | sreAby | sreAbx =>
    exact ⟨_, rfl, r.undocumented fun _ => r.opModifyLogic⟩
  | rraIzx | rraZp | rraAbs | rraIzy | rraZpx | rraAby | rraAbx => exact ⟨_, rfl, r.undocumented fun _ => r.opRra⟩
  | saxIzx | saxZp | saxAbs | saxZpy => exact ⟨_, rfl, r.undocumented fun _ => r.opSax⟩
  | laxIzx | laxZp | laxAbs | laxIzy | laxZpy | laxAby => exact ⟨_, rfl, r.undocumented fun _ => r.opLax⟩
  | dcpIzx | dcpZp | dcpAbs | dcpIzy | dcpZpx | dcpAby | dcpAbx => exact ⟨_, rfl, r.undocumented fun _ => r.opDcp⟩
  | iscIzx | iscZp | iscAbs | iscIzy | iscZpx | iscAby | iscAbx => exact ⟨_, rfl, r.undocumented fun _ => r.opIsc⟩
  | ancImm0B | ancImm2B => exact ⟨_, rfl, r.undocumented fun _ => r.opAnc⟩
  | alrImm => exact ⟨_, rfl, r.undocumented fun _ => r.opAlr⟩
  | arrImm => exact ⟨_, rfl, r.undocumented fun _ => r.opArr⟩
  | sbxImm => exact ⟨_, rfl, r.undocumented fun _ => r.opSbx⟩
  | lasAby => exact ⟨_, rfl, r.undocumented fun _ => r.opLas⟩
  | aneImm => exact ⟨_, rfl, r.undocumented fun _ => r.opAne⟩
  | lxaImm => exact ⟨_, rfl, r.undocumented fun _ => r.opLxa⟩
  | shaIzy | shaAby => exact ⟨_, rfl, r.undocumented fun _ => r.opSha⟩
  | shxAby => exact ⟨_, rfl, r.undocumented fun _ => r.opShx⟩
  | shyAbx => exact ⟨_, rfl, r.undocumented fun _ => r.opShy⟩
  | tasAby => exact ⟨_, rfl, r.undocumented fun _ => r.opTas⟩
  | nopZp04 | nopAbs0C | nopZpx14 | nopImp1A | nopAbx1C | nopZpx34 | nopImp3A | nopAbx3C | nopZp44 | nopZpx54 |
      nopImp5A | nopAbx5C | nopZp64 | nopZpx74 | nopImp7A | nopAbx7C | nopImm80 | nopImm82 | nopImm89 | nopImmC2 |
      nopZpxD4 | nopImpDA | nopAbxDC | nopImmE2 | nopZpxF4 | nopImpFA | nopAbxFC =>
    exact ⟨_, rfl, r.undocumented fun _ => r.nopAccess⟩
  | jam02 | jam12 | jam22 | jam32 | jam42 | jam52 | jam62 | jam72 | jam92 | jamB2 | jamD2 | jamF2 =>
    exact ⟨_, rfl, r.undocumented fun hq => opJam_keepsInv hq hl⟩

/-! ## A step of the CPU (60_exceptions.md R300) -/

theorem fetch8_intLatch (s : State) : (fetch8 s).2.cpu.intLatch = s.cpu.intLatch := by
  simp [fetch8]

/-- Fetching latches no interrupt. -/
theorem fetchInstr_intLatch (s : State) : (fetchInstr s).2.cpu.intLatch = s.cpu.intLatch := by
  unfold fetchInstr
  dsimp only
  split
  · simp only [fetch8_intLatch]
  split <;> simp only [fetch8_intLatch]

/-- An interrupt sequence does not jam the CPU. -/
theorem raiseInterrupt_jammed (k : Interrupt) (s : State) : (raiseInterrupt k s).cpu.jammed = s.cpu.jammed := by
  simp [raiseInterrupt, enterHandler, jumpThrough, readWord, push_eq, pushWord_cpu]

theorem executeNext_keepsInv {s t : State} (hl : s.cpu.intLatch = none) (h : executeNext s = .next t) :
    KeepsInv s t := by
  have hfetch : KeepsInv s (fetchInstr s).2 := (KeepsInv.refl s).fetchInstr
  obtain ⟨u, hexec, hkeeps⟩ := exec_keepsInv (fetchInstr s).1 (fetchInstr s).2 ((fetchInstr_intLatch s).trans hl)
  rw [executeNext, hexec] at h
  obtain rfl : retireUnlessJammed u = t := Host.Outcome.next.inj h
  unfold retireUnlessJammed
  split
  · exact hfetch.trans hkeeps
  · exact (hfetch.trans hkeeps).retire (by simpa using ‹¬u.cpu.jammed = true›)

theorem takeInterrupt_keepsInv (k : Interrupt) {s : State} (hj : s.cpu.jammed = false) :
    KeepsInv s (takeInterrupt k s) := by
  have hclear : KeepsInv s { s with cpu := { s.cpu with intLatch := none } } :=
    ⟨fun i => { i with jammed := fun _ => rfl }, rfl⟩
  exact hclear.raiseInterrupt.retire ((raiseInterrupt_jammed k _).trans hj)

/-- A step of the CPU keeps the invariant, whether it is jammed, takes an interrupt or runs an instruction. -/
theorem cpuStep_keepsInv {s t : State} (h : cpuStep s = .next t) : KeepsInv s t := by
  have hclear : KeepsInv s { s with trace := [] } := ⟨fun i => { i with }, rfl⟩
  unfold cpuStep at h
  dsimp only at h
  split at h
  · obtain rfl := Host.Outcome.next.inj h
    exact hclear.dummyRead
  · rename_i hj
    split at h
    · obtain rfl := Host.Outcome.next.inj h
      exact hclear.trans (takeInterrupt_keepsInv _ (by simpa using hj))
    · rename_i hl
      exact hclear.trans (executeNext_keepsInv hl h)

end Sys2Proof.Machine

namespace Sys2Proof.Machine

/-! # The session: Monitor, breakpoints and host commands (60_exceptions.md R380 to R387) -/

/-- A session that is not stopped has not been released. -/
theorem State.Inv.not_released {s : State} (h : s.Inv) (hl : s.session.lifecycle ≠ .stopped) :
    s.session.released = false := by
  by_contra hr
  exact hl (h.released (by simpa using hr))

/-- The invariant when the session alone is replaced. -/
theorem State.Inv.withSession {s : State} (h : s.Inv) {c : Session} (hc : c.Agrees) :
    State.Inv { s with session := c } :=
  { h with monitor := hc.monitor, inMonitor := hc.inMonitor, released := hc.released }

/-- A session outside the Monitor, not stopped by the host. -/
theorem Session.agrees_of_inactive {c : Session} (hl : c.lifecycle ≠ .inMonitor) (hm : c.monitor = .inactive)
    (hr : c.released = false) : c.Agrees :=
  ⟨fun _ => hm, fun h => absurd h hl, fun h => absurd (hr.symm.trans h) Bool.false_ne_true⟩

/-- A session in the Monitor, not stopped by the host. -/
theorem Session.agrees_of_inMonitor {c : Session} (hl : c.lifecycle = .inMonitor) (hm : c.monitor ≠ .inactive)
    (hr : c.released = false) : c.Agrees :=
  ⟨fun h => absurd hl h, fun _ => hm, fun h => absurd (hr.symm.trans h) Bool.false_ne_true⟩

theorem enterMonitor_inv {s : State} (h : s.Inv) (hr : s.session.released = false) : (enterMonitor s).Inv :=
  h.withSession (Session.agrees_of_inMonitor rfl MonitorState.noConfusion hr)

theorem checkBreakpoints_inv {s : State} (h : s.Inv) (hr : s.session.released = false) : (checkBreakpoints s).Inv := by
  unfold checkBreakpoints
  split
  · exact enterMonitor_inv h hr
  · exact h

theorem checkExecute_inv {s : State} (h : s.Inv) (hr : s.session.released = false) : (checkExecute s).Inv := by
  unfold checkExecute
  split
  · exact enterMonitor_inv h hr
  · exact h

theorem writeRegister_inv (r : RegName) (v : Word) {s : State} (h : s.Inv) : (writeRegister r v s).Inv := by
  have k : KeepsInv s s := .refl s
  cases r with
  | a => exact k.setA.inv h
  | x => exact k.setX.inv h
  | y => exact k.setY.inv h
  | s => exact k.setS.inv h
  | p => exact k.setP.inv h
  | pc => exact k.setPc.inv h

/-- A command in the Monitor: it leaves the Monitor's own lifecycle state to `continue` alone. -/
theorem runMonitor_inv (c : MonitorCmd) {s : State} (h : s.Inv) (hl : s.session.lifecycle = .inMonitor) :
    (runMonitor c s).Inv := by
  have hr : s.session.released = false := h.not_released (by rw [hl]; exact Lifecycle.noConfusion)
  have k : KeepsInv s s := .refl s
  cases c with
  | memoryDump | registerDump | unparsable => exact k.emit.inv h
  | addBreakpoint | removeBreakpoint => exact { h with }
  | singleStep => exact h.withSession (Session.agrees_of_inMonitor hl MonitorState.noConfusion hr)
  | resume =>
    refine h.withSession (Session.agrees_of_inactive ?_ rfl hr)
    dsimp only
    split <;> exact Lifecycle.noConfusion
  | listDirectory => exact h
  | writeMemory a v => exact h.busWrite a v
  | writeRegister r v => exact writeRegister_inv r v h

/-- A Monitor line, which enters the Monitor first while the machine runs. -/
theorem monitorLine_inv (c : MonitorCmd) {s : State} (h : s.Inv) (hr : s.session.released = false) :
    (monitorLine c s).Inv := by
  unfold monitorLine
  split
  · subst c
    exact (KeepsInv.refl s).emit.inv h
  split
  · exact runMonitor_inv c (enterMonitor_inv h hr) rfl
  · exact runMonitor_inv c (enterMonitor_inv h hr) rfl
  · exact runMonitor_inv c h (by assumption)
  · exact h
  · exact h

theorem Cia.QuietAfterReset.noStrobe {c : Cia} (h : c.QuietAfterReset) : c.NoStrobe := by
  obtain ⟨_, _, rfl⟩ := h
  have hctrl : Timer.afterReset.ctrl.getLsbD 4 = false := by decide
  exact ⟨hctrl, hctrl⟩

/-- A reset gives CPU and devices their reset values, keeps or clears the stores, and sets the session running. -/
theorem resetSequence_inv (hard : Bool) {s : State} (h : s.Inv) (hr : s.session.released = false) :
    (resetSequence hard s).Inv := by
  obtain ⟨hvic, hcia1, hcia2, -⟩ := devicesAfterReset_resetSequence hard s
  rw [State.inv_iff, resetSequence_ram, resetSequence_colorRam, hvic, resetSequence_cpu, resetSequence_session]
  refine ⟨?_, ?_, Memory.canonical_nil _, ?_, hcia1.noStrobe, hcia2.noStrobe, ⟨fun _ => rfl, fun _ => rfl⟩,
    Session.agrees_of_inactive Lifecycle.noConfusion rfl hr⟩
  · cases hard
    · exact ⟨h.ram, h.ramBelow⟩
    · exact Memory.canonical_nil _
  · cases hard
    · exact ⟨h.color, h.colorBelow⟩
    · exact Memory.canonical_nil _
  · cases (resetSequence hard s).params.videoStandard <;> exact ⟨by decide, by decide, by decide⟩

theorem setLifecycle_inv {s : State} (h : s.Inv) (hr : s.session.released = false)
    (hl : s.session.lifecycle ≠ .inMonitor) {l : Lifecycle} (hne : l ≠ .inMonitor) : (s.setLifecycle l).Inv :=
  h.withSession (Session.agrees_of_inactive hne (h.monitor hl) hr)

/-- A host command of a session that has not been stopped. -/
theorem runHostCmd_inv (c : HostCmd) {s : State} (h : s.Inv) (hr : s.session.released = false) :
    (runHostCmd c s).Inv := by
  unfold runHostCmd
  cases c with
  | start =>
    dsimp only
    split
    · exact resetSequence_inv true h hr
    · exact h
  | pause =>
    dsimp only
    split
    · exact setLifecycle_inv h hr (by simp [*]) Lifecycle.noConfusion
    · exact h
  | resume =>
    dsimp only
    split
    · exact setLifecycle_inv h hr (by simp [*]) Lifecycle.noConfusion
    · exact h
  | toggleWarp =>
    dsimp only
    split
    · exact setLifecycle_inv h hr (by simp [*]) Lifecycle.noConfusion
    · exact setLifecycle_inv h hr (by simp [*]) Lifecycle.noConfusion
    all_goals exact h
  | activateMonitor =>
    dsimp only
    split
    · exact enterMonitor_inv h hr
    · exact h
  | reset hard =>
    exact checkExecute_inv (resetSequence_inv hard h hr) (by rw [resetSequence_session]; exact hr)
  | stop => exact h.withSession ⟨fun _ => rfl, Lifecycle.noConfusion, fun _ => rfl⟩
  | attachDisk valid =>
    dsimp only
    split
    · exact h
    · exact (KeepsInv.refl s).emit.inv h
  | setResource => exact h
  | monitor c => exact monitorLine_inv c h hr

/-- Draining the queue: a session that has been stopped ignores what is left of it. -/
theorem drain_inv (queue : List HostCmd) {s : State} (h : s.Inv) : (drain queue s).Inv := by
  induction queue generalizing s with
  | nil => exact { h with }
  | cons c rest ih =>
    unfold drain
    split
    · exact { h with }
    refine ih ?_
    split
    · exact h
    · exact runHostCmd_inv c h (by simpa using ‹¬s.session.released = true›)

theorem drainQueue_inv {s : State} (h : s.Inv) : (drainQueue s).Inv := drain_inv s.session.queue h

/-- The instruction boundary of a running machine. -/
theorem boundary_inv {s : State} (h : s.Inv) (hl : s.session.lifecycle ≠ .stopped) : (boundary s).Inv :=
  drainQueue_inv (checkBreakpoints_inv h (h.not_released hl))

/-- The boundary after a single step in the Monitor. -/
theorem boundaryOfSingleStep_inv {s : State} (h : s.Inv) (hl : s.session.lifecycle = .inMonitor) :
    (boundaryOfSingleStep s).Inv := by
  have hr : s.session.released = false := h.not_released (by rw [hl]; exact Lifecycle.noConfusion)
  exact drainQueue_inv (h.withSession (Session.agrees_of_inMonitor hl MonitorState.noConfusion hr))

/-! ## A step of the machine (60_exceptions.md R330) -/

/-- An iteration is a path that keeps the invariant, and then what follows at the boundary. -/
theorem iterate_cases {after : State → State} {s t : State} (h : iterate after s = .next t) :
    ∃ u, KeepsInv s u ∧ t = after u := by
  unfold iterate at h
  split at h
  case h_1 u hstep =>
    have hcpu : KeepsInv s u := (KeepsInv.refl s).payOwed.trans (cpuStep_keepsInv hstep)
    exact ⟨_, hcpu.tickFor u.trace.length, (Host.Outcome.next.inj h).symm⟩
  all_goals exact nomatch h

theorem iterate_boundary_inv {s t : State} (h : s.Inv) (hl : s.session.lifecycle ≠ .stopped)
    (ht : iterate boundary s = .next t) : t.Inv := by
  obtain ⟨u, hu, rfl⟩ := iterate_cases ht
  exact boundary_inv (hu.inv h) (hu.lifecycle ▸ hl)

theorem iterate_boundaryOfSingleStep_inv {s t : State} (h : s.Inv) (hl : s.session.lifecycle = .inMonitor)
    (ht : iterate boundaryOfSingleStep s = .next t) : t.Inv := by
  obtain ⟨u, hu, rfl⟩ := iterate_cases ht
  exact boundaryOfSingleStep_inv (hu.inv h) (hu.lifecycle.trans hl)

/-- Settles O39, by the lifecycle state: a running machine and a single step make an iteration, the others only drain
the queue. -/
theorem everyStepKeepsTheInvariant : Obligations.EveryStepKeepsTheInvariant := by
  intro s t h ht
  unfold step runLoop at ht
  split at ht
  case h_1 _ hl => exact iterate_boundary_inv h (by simp [hl]) ht
  case h_2 _ hl => exact iterate_boundary_inv h (by simp [hl]) ht
  case h_3 hl _ => exact iterate_boundaryOfSingleStep_inv h hl ht
  all_goals
    obtain rfl := Host.Outcome.next.inj ht
    exact drainQueue_inv h

end Sys2Proof.Machine

namespace Sys2Proof.Machine

/-! # Every instruction and every step completes (20_memory.md R61, 60_exceptions.md R301, R303) -/

/-- Each arm of `exec` calls a meaning that answers with a next state. -/
theorem exec_next (i : Instr) (s : State) : ∃ t, exec i s = .next t := by
  cases i <;> exact ⟨_, rfl⟩

theorem executeNext_next (s : State) : ∃ t, executeNext s = .next t := by
  obtain ⟨t, h⟩ := exec_next (fetchInstr s).1 (fetchInstr s).2
  exact ⟨retireUnlessJammed t, by rw [executeNext, h]⟩

theorem cpuStep_next (s : State) : ∃ t, cpuStep s = .next t := by
  unfold cpuStep
  dsimp only
  split
  case isTrue => exact ⟨_, rfl⟩
  case isFalse =>
    split
    case h_1 => exact ⟨_, rfl⟩
    case h_2 => exact executeNext_next _

theorem iterate_next (after : State → State) (s : State) : ∃ t, iterate after s = .next t := by
  obtain ⟨t, h⟩ := cpuStep_next (payOwed s)
  exact ⟨after (tickFor t.trace.length t), by rw [iterate, h]⟩

theorem step_next (s : State) : ∃ t, step s = .next t := by
  unfold step runLoop
  split
  case h_1 => exact iterate_next boundary s
  case h_2 => exact iterate_next boundary s
  case h_3 => exact iterate_next boundaryOfSingleStep s
  all_goals exact ⟨_, rfl⟩

/-- Settles O37: an iteration ends in its CPU step's outcome, and that in its instruction's. -/
theorem everyInstructionAndStepCompletes : Obligations.EveryInstructionAndStepCompletes :=
  ⟨exec_next, step_next⟩

end Sys2Proof.Machine

namespace Sys2Proof.Machine

/-! # What a read gives after a write (20_memory.md R63, R64, R70, R84)

## Which store answers after a write to RAM -/

@[simp] theorem State.store_writeRam (a b : Word) (v : Byte) (s : State) : (s.writeRam a v).store b = s.store b := rfl

/-- Storing a byte of RAM changes no byte that RAM does not answer. -/
theorem State.peek_writeRam_of_not_ram {s : State} {a b : Word} (v : Byte) (hram : s.store b ≠ .ram)
    (hio : s.store b ≠ .io) : (s.writeRam a v).peek b = s.peek b := by
  unfold State.peek State.busRead
  rw [State.store_writeRam]
  cases hb : s.store b with
  | portDirection | portData | basic | kernal | chargen => rfl
  | ram => exact absurd hb hram
  | io => exact absurd hb hio

/-- Storing a byte of RAM changes no other byte that no device answers. -/
theorem State.peek_writeRam_other {s : State} {a b : Word} (v : Byte) (hne : b ≠ a) (hio : s.store b ≠ .io) :
    (s.writeRam a v).peek b = s.peek b := by
  by_cases hram : s.store b = .ram
  · have hcell : b.toNat ≠ a.toNat := fun e => hne (BitVec.eq_of_toNat_eq e)
    simp [State.peek, State.busRead_ram_value, hram, Memory.read_write_other s.ram _ _ v hcell]
  · exact State.peek_writeRam_of_not_ram v hram hio

theorem State.peek_writeRam_same {s : State} {a : Word} (v : Byte) (hwf : Memory.wf s.ram = true)
    (h : s.store a = .ram) : (s.writeRam a v).peek a = v := by
  simp [State.peek, State.busRead_ram_value, h, Memory.read_write_same s.ram a.toNat v hwf]

/-! ## ROM (20_memory.md R64, D3) -/

/-- The stores that hold a ROM image. -/
def Store.IsRom (x : Store) : Prop := x = .basic ∨ x = .kernal ∨ x = .chargen

theorem State.busWrite_rom {s : State} {a : Word} (v : Byte) (h : (s.store a).IsRom) :
    s.busWrite a v = s.writeUnderRom a v := by
  obtain h | h | h := h <;> simp only [State.busWrite, h]

/-- What a write under a ROM stores in RAM, the ROM still hides. -/
theorem State.peek_busWrite_rom {s : State} {a : Word} (v : Byte) (h : (s.store a).IsRom) :
    (s.busWrite a v).peek a = s.peek a := by
  have hram : s.store a ≠ .ram := by obtain h | h | h := h <;> simp [h]
  have hio : s.store a ≠ .io := by obtain h | h | h := h <;> simp [h]
  rw [State.busWrite_rom v h, State.writeUnderRom]
  split
  · exact State.peek_writeRam_of_not_ram v hram hio
  · rfl

/-! ## The RAM under the processor port -/

/-- A write to a port address goes to the port alone. -/
theorem State.busWrite_port_ram {s : State} {a : Word} (v : Byte) (h : a.toNat < 2) :
    (s.busWrite a v).ram = s.ram := by
  obtain rfl | rfl : a = 0 ∨ a = 1 := by bv_omega
  · rfl
  · rfl

theorem State.busWrite_ram_underPort (s : State) (a : Word) (v : Byte) {k : Nat} (hk : k < 2) :
    (s.busWrite a v).ram.read k = s.ram.read k := by
  by_cases ha : a.toNat < 2
  · rw [State.busWrite_port_ram v ha]
  · exact State.busWrite_ram_other a v s k (by omega)

/-! ## Counted accesses -/

/-- The record of accesses is seen by no read. -/
@[simp] theorem State.peek_log (e : BusAccess) (s : State) (a : Word) : (s.log e).peek a = s.peek a := by
  unfold State.peek State.busRead
  rw [show (s.log e).store a = s.store a from rfl]
  cases s.store a with
  | io =>
    unfold State.ioRead
    cases ioDevice a with
    | sid =>
      dsimp only [State.log]
      split <;> rfl
    | cia1 =>
      dsimp only [State.readCia1, State.log]
      split <;> rfl
    | vic | color | cia2 | expansion => rfl
  | _ => rfl

theorem memRead_memWrite_value (a b : Word) (v : Byte) (s : State) :
    (memRead b (memWrite a v s)).1 = (s.busWrite a v).peek b := State.peek_log _ _ b

/-- Settles O48, one clause a store: RAM by the laws of its cells, a ROM because it hides the RAM under it. -/
theorem memoryRoundTrip : Obligations.MemoryRoundTrip := by
  intro s a v hwf
  refine ⟨fun hram => ⟨?_, ?_⟩, fun hrom => ⟨?_, fun hoff => ?_, fun hon => ?_⟩, fun b hram hne hio => ?_,
    fun k hk => s.busWrite_ram_underPort a v hk⟩
  · rw [memRead_memWrite_value, State.busWrite_ram_value a v s hram]
    exact State.peek_writeRam_same v hwf hram
  · exact State.busRead_pure a s (by simp [hram])
  · rw [memRead_memWrite_value]
    exact State.peek_busWrite_rom v hrom
  · simp [State.busWrite_rom v hrom, State.writeUnderRom, hoff]
  · simp [State.busWrite_rom v hrom, State.writeUnderRom, hon]
  · rw [State.busWrite_ram_value a v s hram]
    exact State.peek_writeRam_other v hne hio

/-! ## Colour RAM and the expansion region (20_memory.md R70, R84) -/

theorem State.busRead_color {s : State} {a : Word} (hio : s.store a = .io) (h : ioDevice a = .color) :
    s.busRead a = (s.readOpenBus.1.extractLsb' 4 4 ++ s.colorRam.read (a.toNat % 1024), s.readOpenBus.2) := by
  simp [State.busRead, hio, State.ioRead, h]

theorem State.busWrite_color {s : State} {a : Word} (v : Byte) (hio : s.store a = .io)
    (h : ioDevice a = .color) :
    s.busWrite a v = { s with colorRam := s.colorRam.write (a.toNat % 1024) (v.extractLsb' 0 4) } := by
  simp [State.busWrite, hio, State.ioWrite, h]

theorem State.busRead_expansion {s : State} {a : Word} (hio : s.store a = .io) (h : ioDevice a = .expansion) :
    s.busRead a = s.readOpenBus := by
  simp [State.busRead, hio, State.ioRead, h]

theorem State.busWrite_expansion {s : State} {a : Word} (v : Byte) (hio : s.store a = .io)
    (h : ioDevice a = .expansion) : s.busWrite a v = s := by
  simp [State.busWrite, hio, State.ioWrite, h]

/-- A byte put together of two nibbles has them as its halves. -/
theorem extract_high_append (x y : BitVec 4) : (x ++ y).extractLsb' 4 4 = x := by
  rw [BitVec.extractLsb'_append_eq_of_le (le_refl 4), BitVec.extractLsb'_eq_self]

theorem extract_low_append (x y : BitVec 4) : (x ++ y).extractLsb' 0 4 = y := by
  rw [BitVec.extractLsb'_append_eq_of_add_le (le_refl 4), BitVec.extractLsb'_eq_self]

/-- Settles O56: the nibble is what the store reads back, the rest of each byte is the next draw. -/
theorem colourRamKeepsTheLowNibble : Obligations.ColourRamKeepsTheLowNibble := by
  intro s a v hwf hio
  refine ⟨fun hcolor => ?_, fun hexp => ⟨State.busWrite_expansion v hio hexp, ?_⟩⟩
  · have hcell : (s.busWrite a v).colorRam.read (a.toNat % 1024) = v.extractLsb' 0 4 := by
      rw [State.busWrite_color v hio hcolor]
      exact Memory.read_write_same s.colorRam _ _ hwf
    have hstore : (s.busWrite a v).store a = .io := by
      rw [State.busWrite_color v hio hcolor]
      exact hio
    refine ⟨hcell, ?_, ?_⟩
    · rw [State.busRead_color hstore hcolor, hcell]
      exact extract_low_append _ _
    · rw [State.busRead_color hio hcolor]
      exact ⟨extract_high_append _ _, rfl⟩
  · rw [State.busRead_expansion hio hexp]
    exact ⟨rfl, rfl⟩

end Sys2Proof.Machine

namespace Sys2Proof.Machine

/-! # What a bus read can change (20_memory.md R68)

## Of each device -/

@[simp] theorem Vic.read_steady (n : BitVec 6) (v : Vic) : (v.read n).2.steady = v.steady := by
  obtain e | e | e := Vic.read_snd n v <;> rw [e] <;> rfl

@[simp] theorem Cia.read_steady (n : BitVec 4) (extA extB : Byte) (c : Cia) :
    (c.read n extA extB).2.steady = c.steady := by
  obtain e | e | ⟨_, _, e⟩ := Cia.read_snd n extA extB c <;> rw [e] <;> rfl

/-- Only the two collision registers clear on read (60_exceptions.md R346). -/
theorem Vic.read_snd_of_ne {n : BitVec 6} (hss : n ≠ 0x1E) (hsb : n ≠ 0x1F) (v : Vic) : (v.read n).2 = v := by
  unfold Vic.read
  split
  case h_7 h => exact absurd (BitVec.eq_of_toNat_eq h) hss
  case h_8 h => exact absurd (BitVec.eq_of_toNat_eq h) hsb
  case h_9 =>
    split
    · rfl
    · split <;> rfl
  all_goals rfl

/-- Only ICR (60_exceptions.md R356), the tenths and the hours of the time of day (R358) have reads with an effect. -/
theorem Cia.read_snd_of_quiet {n : BitVec 4} (hquiet : (n == 0x8 || n == 0xB || n == 0xD) = false)
    (extA extB : Byte) (c : Cia) : (c.read n extA extB).2 = c := by
  simp only [Bool.or_eq_false_iff, beq_eq_false_iff_ne] at hquiet
  obtain ⟨⟨htenths, hhours⟩, hicr⟩ := hquiet
  unfold Cia.read
  split
  case h_10 h => exact absurd (BitVec.eq_of_toNat_eq h) hicr
  case h_13 =>
    have hn : n.toNat - 8 = 1 ∨ n.toNat - 8 = 2 := by
      have h8 : n.toNat ≠ 0x8 := BitVec.toNat_ne_iff_ne.2 htenths
      have hB : n.toNat ≠ 0xB := BitVec.toNat_ne_iff_ne.2 hhours
      have hlt := n.isLt
      simp only [imp_false] at *
      omega
    obtain h | h := hn <;> rw [h] <;> rfl
  all_goals rfl

/-! ## Of the model's counters -/

@[simp] theorem State.countJoystick_undrawn (j : Joystick) (s : State) :
    (State.countJoystick j s).undrawn = s.undrawn := by
  unfold State.countJoystick
  split <;> rfl

@[simp] theorem State.countOsc3_undrawn (n : BitVec 5) (s : State) : (State.countOsc3 n s).undrawn = s.undrawn := by
  unfold State.countOsc3
  split <;> rfl

@[simp] theorem State.readOpenBus_undrawn (s : State) : s.readOpenBus.2.undrawn = s.undrawn := rfl

/-! ## Of the machine -/

/-- What a bus read can do but for counting draws and settling joystick values: nothing, or what a read of one device's
register does to that device. -/
inductive ReadEffect (a : Word) (s t : State) : Prop where
  | nothing (h : t.undrawn = s.undrawn)
  | vic (hdev : ioDevice a = .vic)
      (h : t.undrawn = State.undrawn { s with vic := (s.vic.read (a.extractLsb' 0 6)).2 })
  | cia1 (hdev : ioDevice a = .cia1) (extA extB : Byte)
      (h : t.undrawn = State.undrawn { s with cia1 := (s.cia1.read (a.extractLsb' 0 4) extA extB).2 })
  | cia2 (hdev : ioDevice a = .cia2) (extA extB : Byte)
      (h : t.undrawn = State.undrawn { s with cia2 := (s.cia2.read (a.extractLsb' 0 4) extA extB).2 })

theorem State.readCia1_undrawn (n : BitVec 4) (s : State) : ∃ extA extB, (s.readCia1 n).2.undrawn =
    State.undrawn { s with cia1 := (s.cia1.read n extA extB).2 } := by
  unfold State.readCia1
  dsimp only
  split
  · exact ⟨_, _, State.countJoystick_undrawn _ _⟩
  · exact ⟨_, _, State.countJoystick_undrawn _ _⟩
  · exact ⟨_, _, rfl⟩

theorem State.ioRead_effect (a : Word) (s : State) : ReadEffect a s (s.ioRead a).2 := by
  unfold State.ioRead
  split
  case h_1 hdev => exact .vic hdev rfl
  case h_2 =>
    split
    · exact .nothing (State.countOsc3_undrawn _ s)
    · exact .nothing (State.readOpenBus_undrawn s)
  case h_3 => exact .nothing (State.readOpenBus_undrawn s)
  case h_4 hdev =>
    obtain ⟨extA, extB, h⟩ := State.readCia1_undrawn (a.extractLsb' 0 4) s
    exact .cia1 hdev extA extB h
  case h_5 hdev => exact .cia2 hdev _ _ rfl
  case h_6 => exact .nothing (State.readOpenBus_undrawn s)

theorem State.busRead_effect (a : Word) (s : State) : ReadEffect a s (s.busRead a).2 := by
  by_cases h : s.store a = .io
  · simp only [State.busRead, h]
    exact State.ioRead_effect a s
  · exact .nothing (by rw [State.busRead_pure a s h])

/-- `undrawn` keeps whatever `steady` keeps. -/
theorem State.steady_undrawn (s : State) : s.undrawn.steady = s.steady := rfl

theorem State.unstable_undrawn (s : State) : s.undrawn.draws.unstable = s.draws.unstable := rfl

namespace ReadEffect

variable {a : Word} {s t : State} (h : ReadEffect a s t)
include h

theorem steady : t.steady = s.steady := by
  rw [← t.steady_undrawn]
  cases h with
  | nothing h => rw [h, State.steady_undrawn]
  | vic _ h => rw [h, State.steady_undrawn]; simp [State.steady]
  | cia1 _ _ _ h => rw [h, State.steady_undrawn]; simp [State.steady]
  | cia2 _ _ _ h => rw [h, State.steady_undrawn]; simp [State.steady]

theorem unstable : t.draws.unstable = s.draws.unstable := by
  rw [← t.unstable_undrawn]
  cases h with
  | nothing h | vic _ h | cia1 _ _ _ h | cia2 _ _ _ h => rw [h, State.unstable_undrawn]

/-- At an address whose read has no side effect the device is left alone too. -/
theorem undrawn (hquiet : readHasEffect a = false) : t.undrawn = s.undrawn := by
  cases h with
  | nothing h => exact h
  | vic hdev h =>
    simp only [readHasEffect, hdev, Bool.or_eq_false_iff, beq_eq_false_iff_ne] at hquiet
    obtain ⟨hss, hsb⟩ := hquiet
    rw [h, Vic.read_snd_of_ne hss hsb]
  | cia1 hdev extA extB h =>
    rw [readHasEffect, hdev] at hquiet
    rw [h, Cia.read_snd_of_quiet hquiet]
  | cia2 hdev extA extB h =>
    rw [readHasEffect, hdev] at hquiet
    rw [h, Cia.read_snd_of_quiet hquiet]

end ReadEffect

/-- Settles O42: the device that answers, if any, is read at one register. -/
theorem readsHaveNoOtherSideEffect : Obligations.ReadsHaveNoOtherSideEffect := by
  intro s a
  have h : ReadEffect a s (s.busRead a).2 := s.busRead_effect a
  exact ⟨h.steady, s.busRead_trace a, s.busRead_pure a, h.undrawn, h.unstable⟩

end Sys2Proof.Machine

namespace Sys2Proof.Machine

/-! # The video chip's registers and its tick (20_memory.md R84, 60_exceptions.md R333 to R336, R346)

## What the registers show -/

theorem toNat_append_eq {m n : Nat} (x : BitVec m) (y : BitVec n) :
    (x ++ y).toNat = 2 ^ n * x.toNat + y.toNat := by
  rw [BitVec.toNat_append, ← Nat.shiftLeft_add_eq_or_of_lt y.isLt, Nat.shiftLeft_eq, Nat.mul_comm]

theorem Vic.irq_eq (v : Vic) : v.irq = decide (v.irqLatch &&& v.irqEnable ≠ 0) := by
  rw [Vic.irq, bne, beq_eq_decide, decide_not]

theorem Vic.read_control_toNat (v : Vic) :
    (v.read 0x11).1.toNat = 128 * (v.raster.toNat / 256) + (v.reg 0x11).toNat % 128 := by
  have hraster := v.raster.isLt
  change (v.raster.extractLsb' 8 1 ++ (v.reg 0x11).extractLsb' 0 7).toNat = _
  rw [toNat_append_eq, BitVec.extractLsb'_toNat, BitVec.extractLsb'_toNat, Nat.shiftRight_eq_div_pow,
    Nat.shiftRight_zero]
  omega

theorem Vic.read_raster_toNat (v : Vic) : (v.read 0x12).1.toNat = v.raster.toNat % 256 := by
  change (v.raster.extractLsb' 0 8).toNat = _
  rw [BitVec.extractLsb'_toNat, Nat.shiftRight_zero]

theorem Vic.read_latch_toNat (v : Vic) : (v.read 0x19).1.toNat = 128 * v.irq.toNat + 112 + v.irqLatch.toNat := by
  change (BitVec.ofBool v.irq ++ 0b111#3 ++ v.irqLatch).toNat = _
  rw [toNat_append_eq, toNat_append_eq, BitVec.toNat_ofBool, show (0b111#3).toNat = 7 from rfl]
  omega

theorem Vic.read_enable_toNat (v : Vic) : (v.read 0x1A).1.toNat = 240 + v.irqEnable.toNat := by
  change (0xF#4 ++ v.irqEnable).toNat = _
  rw [toNat_append_eq]
  rfl

/-- `DEN` shows in the control register it is a bit of. -/
theorem Vic.read_control_den (v : Vic) : (v.read 0x11).1.getLsbD 4 = v.den := by
  change (v.raster.extractLsb' 8 1 ++ (v.reg 0x11).extractLsb' 0 7).getLsbD 4 = _
  rw [BitVec.getLsbD_append, if_pos (by decide), BitVec.getLsbD_extractLsb']
  rfl

/-! ## The compare value (R335) -/

@[simp] theorem Vic.setCompare_rasterCmp (cmp : BitVec 9) (v : Vic) : (v.setCompare cmp).rasterCmp = cmp := by
  obtain ⟨_, e⟩ := Vic.setCompare_eq cmp v
  rw [e]

@[simp] theorem Vic.setCompare_regs (cmp : BitVec 9) (v : Vic) : (v.setCompare cmp).regs = v.regs := by
  obtain ⟨_, e⟩ := Vic.setCompare_eq cmp v
  rw [e]

@[simp] theorem Vic.setCompare_raster (cmp : BitVec 9) (v : Vic) : (v.setCompare cmp).raster = v.raster := by
  obtain ⟨_, e⟩ := Vic.setCompare_eq cmp v
  rw [e]

theorem Vic.setCompare_irqLatch (cmp : BitVec 9) (v : Vic) : (v.setCompare cmp).irqLatch =
    if cmp = v.raster ∧ v.rasterCmp ≠ v.raster then v.irqLatch ||| 1 else v.irqLatch := by
  unfold Vic.setCompare
  split <;> rfl

theorem Vic.setCompare_frame (cmp : BitVec 9) (v : Vic) : v.setCompare cmp =
    { v with rasterCmp := cmp, irqLatch := (v.setCompare cmp).irqLatch } := by
  obtain ⟨_, e⟩ := Vic.setCompare_eq cmp v
  rw [e]

/-- A write of `$D011` gives the compare value its bit 8. -/
theorem toNat_compareHigh (b : Byte) (cmp : BitVec 9) :
    (b.extractLsb' 7 1 ++ cmp.extractLsb' 0 8).toNat = 256 * (b.toNat / 128) + cmp.toNat % 256 := by
  have hb := b.isLt
  rw [toNat_append_eq, BitVec.extractLsb'_toNat, BitVec.extractLsb'_toNat, Nat.shiftRight_eq_div_pow,
    Nat.shiftRight_zero]
  omega

/-- A write of `$D012` gives it the bits below. -/
theorem toNat_compareLow (b : Byte) (cmp : BitVec 9) :
    (cmp.extractLsb' 8 1 ++ b).toNat = 256 * (cmp.toNat / 256) + b.toNat := by
  have hcmp := cmp.isLt
  rw [toNat_append_eq, BitVec.extractLsb'_toNat, Nat.shiftRight_eq_div_pow]
  omega

/-- A write of `$D011`. -/
theorem Vic.write_control (b : Byte) (v : Vic) :
    let w := v.write 0x11 b
    w.rasterCmp.toNat = 256 * (b.toNat / 128) + v.rasterCmp.toNat % 256 ∧
      w.irqLatch = (if w.rasterCmp = v.raster ∧ v.rasterCmp ≠ v.raster then v.irqLatch ||| 1 else v.irqLatch) ∧
      (Memory.wf v.regs = true → (w.read 0x11).1.toNat = 128 * (v.raster.toNat / 256) + b.toNat % 128 ∧
        ∀ k : Nat, k ≠ 0x11 → w.reg k = v.reg k) ∧
      w = { v with regs := w.regs, rasterCmp := w.rasterCmp, irqLatch := w.irqLatch } := by
  intro w
  have hw : w = (v.store 0x11 (b &&& 0x7F)).setCompare (b.extractLsb' 7 1 ++ v.rasterCmp.extractLsb' 0 8) := rfl
  have hregs : w.regs = v.regs.write 0x11 (b &&& 0x7F) := by rw [hw, Vic.setCompare_regs]; rfl
  refine ⟨?_, ?_, fun hwf => ⟨?_, fun k hk => ?_⟩, ?_⟩
  · rw [hw, Vic.setCompare_rasterCmp, toNat_compareHigh]
  · rw [hw, Vic.setCompare_rasterCmp, Vic.setCompare_irqLatch]
    rfl
  · have hreg : w.reg 0x11 = b &&& 0x7F := by rw [Vic.reg, hregs, Memory.read_write_same v.regs _ _ hwf]
    have hlow : (b &&& 0x7F).toNat = b.toNat % 128 := Nat.and_two_pow_sub_one_eq_mod b.toNat 7
    have hraster : w.raster = v.raster := by rw [hw, Vic.setCompare_raster]; rfl
    rw [Vic.read_control_toNat, hreg, hlow, hraster, Nat.mod_mod]
  · rw [Vic.reg, hregs, Memory.read_write_other v.regs _ _ _ hk]
    rfl
  · rw [hw, Vic.setCompare_frame]
    rfl

/-- A write of `$D012`. -/
theorem Vic.write_compare (b : Byte) (v : Vic) :
    let w := v.write 0x12 b
    w.rasterCmp.toNat = 256 * (v.rasterCmp.toNat / 256) + b.toNat ∧
      w.irqLatch = (if w.rasterCmp = v.raster ∧ v.rasterCmp ≠ v.raster then v.irqLatch ||| 1 else v.irqLatch) ∧
      w = { v with rasterCmp := w.rasterCmp, irqLatch := w.irqLatch } := by
  intro w
  have hw : w = v.setCompare (v.rasterCmp.extractLsb' 8 1 ++ b) := rfl
  refine ⟨?_, ?_, ?_⟩
  · rw [hw, Vic.setCompare_rasterCmp, toNat_compareLow]
  · rw [hw, Vic.setCompare_rasterCmp, Vic.setCompare_irqLatch]
  · rw [hw, Vic.setCompare_frame]

/-! ## The latch and the enable bits (R336) -/

theorem Vic.write_latch (b : Byte) (v : Vic) :
    let w := v.write 0x19 b
    (∀ i : Fin 4, w.irqLatch.getLsbD i = (v.irqLatch.getLsbD i && !b.getLsbD i)) ∧
      (v.irqLatch &&& v.irqEnable &&& ~~~(b.extractLsb' 0 4) = 0 → w.irq = false) ∧
      w = { v with irqLatch := w.irqLatch } := by
  intro w
  have hw : w = { v with irqLatch := v.irqLatch &&& ~~~(b.extractLsb' 0 4) } := rfl
  refine ⟨fun i => ?_, fun hnone => ?_, rfl⟩
  · simp [hw, i.isLt]
  · rw [hw, Vic.irq_eq, decide_eq_false_iff_not, not_not, BitVec.and_assoc, BitVec.and_comm (~~~_),
      ← BitVec.and_assoc, hnone]

theorem Vic.write_enable_toNat (b : Byte) (v : Vic) : (v.write 0x1A b).irqEnable.toNat = b.toNat % 16 := by
  change (b.extractLsb' 0 4).toNat = _
  rw [BitVec.extractLsb'_toNat, Nat.shiftRight_zero]

/-! ## Plain storage and the numbers above `$2E` (20_memory.md R84) -/

/-- The bits of a plain register that the chip does not implement, which read as 1. -/
def Vic.missingBits (n : BitVec 6) : Byte :=
  if n = 0x16 then 0xC0 else if n = 0x18 then 0x01 else if 0x20 ≤ n.toNat then 0xF0 else 0x00

/-- The register numbers of plain storage. -/
def Vic.IsPlain (n : BitVec 6) : Prop :=
  n.toNat < 0x2F ∧ n ∉ ([0x11, 0x12, 0x19, 0x1A, 0x1E, 0x1F] : List (BitVec 6))

theorem Vic.IsPlain.toNat_notMem {n : BitVec 6} (h : Vic.IsPlain n) :
    n.toNat ∉ ([0x11, 0x12, 0x19, 0x1A, 0x1E, 0x1F] : List Nat) := fun hmem =>
  h.2 (by simpa [← BitVec.toNat_inj] using hmem)

theorem Vic.write_plain {n : BitVec 6} (h : Vic.IsPlain n) (b : Byte) (v : Vic) :
    v.write n b = v.store n.toNat b := by
  have hlt := h.1
  unfold Vic.write
  split
  case h_7 => exact if_neg (by omega)
  all_goals next e => exact absurd (by simp [e]) h.toNat_notMem

theorem Vic.read_plain {n : BitVec 6} (h : Vic.IsPlain n) (v : Vic) :
    (v.read n).1 = v.reg n.toNat ||| Vic.missingBits n := by
  have hlt := h.1
  unfold Vic.read
  split
  case h_3 e => rw [e, show n = 0x16 from BitVec.eq_of_toNat_eq e]; rfl
  case h_4 e => rw [e, show n = 0x18 from BitVec.eq_of_toNat_eq e]; rfl
  case h_9 h16 h18 _ _ _ _ =>
    have hne16 : n ≠ 0x16 := BitVec.toNat_ne_iff_ne.1 h16
    have hne18 : n ≠ 0x18 := BitVec.toNat_ne_iff_ne.1 h18
    rw [if_neg (by omega), Vic.missingBits, if_neg hne16, if_neg hne18]
    split
    · rfl
    · exact (BitVec.or_zero).symm
  all_goals next e => exact absurd (by simp [e]) h.toNat_notMem

/-- Of the register file a read sees the one register it names. -/
theorem Vic.read_withRegs {v : Vic} {regs : Memory 8} {m : BitVec 6}
    (h : regs.read m.toNat = v.regs.read m.toNat) : (Vic.read m { v with regs := regs }).1 = (v.read m).1 := by
  unfold Vic.read Vic.reg
  dsimp only
  split
  case h_1 e | h_3 e | h_4 e =>
    rw [e] at h
    rw [h]
  case h_9 =>
    rw [h]
    split
    · rfl
    · split <;> rfl
  all_goals rfl

theorem Vic.read_write_plain {n : BitVec 6} (h : Vic.IsPlain n) (b : Byte) {v : Vic}
    (hwf : Memory.wf v.regs = true) :
    let w := v.write n b
    (w.read n).1 = b ||| Vic.missingBits n ∧ (∀ m : BitVec 6, m ≠ n → (w.read m).1 = (v.read m).1) ∧
      w = { v with regs := w.regs } := by
  intro w
  have hw : w = { v with regs := v.regs.write n.toNat b } := Vic.write_plain h b v
  refine ⟨?_, fun m hm => ?_, by rw [hw]⟩
  · rw [Vic.read_plain h, hw, Vic.reg, Memory.read_write_same v.regs _ _ hwf]
  · rw [hw]
    exact Vic.read_withRegs (Memory.read_write_other v.regs _ _ _ (BitVec.toNat_ne_iff_ne.2 hm))

theorem Vic.write_above {n : BitVec 6} (h : 0x2F ≤ n.toNat) (b : Byte) (v : Vic) : v.write n b = v := by
  unfold Vic.write
  split
  case h_7 => exact if_pos h
  all_goals omega

theorem Vic.read_above {n : BitVec 6} (h : 0x2F ≤ n.toNat) (v : Vic) : v.read n = (0xFF, v) := by
  unfold Vic.read
  split
  case h_9 => exact if_pos h
  all_goals omega

/-! ## The tick (R333) -/

/-- The cycle is the line's last, so that the tick begins a new line. -/
def Vic.newLine (std : VideoStandard) (v : Vic) : Bool := decide (std.cyclesPerLine < v.rcycle + 1)

/-- The line is the frame's last besides, so that the tick begins a new frame. -/
def Vic.newFrame (std : VideoStandard) (v : Vic) : Bool :=
  v.newLine std && decide (v.raster + 1 = BitVec.ofNat 9 std.lines)

theorem Vic.advance_eq (std : VideoStandard) (v : Vic) : v.advance std =
    ({ v with
        rcycle := if v.newLine std then 1 else v.rcycle + 1
        raster := if v.newFrame std then 0 else if v.newLine std then v.raster + 1 else v.raster
        denSeen := v.denSeen && !v.newFrame std }, v.newFrame std) := by
  unfold Vic.advance
  split
  case isTrue h =>
    have hline : v.newLine std = false := decide_eq_false (by omega)
    simp [Vic.newFrame, hline]
  case isFalse h =>
    have hline : v.newLine std = true := decide_eq_true (by omega)
    split
    case isTrue hlast =>
      have hframe : v.newFrame std = true := by rw [Vic.newFrame, hline, decide_eq_true hlast]; rfl
      simp [hframe]
    case isFalse hlast =>
      have hframe : v.newFrame std = false := by rw [Vic.newFrame, hline, decide_eq_false hlast]; rfl
      simp [hframe]

theorem Vic.noteDen_eq_or (v : Vic) :
    v.noteDen = { v with denSeen := v.denSeen || (decide (v.raster = 0x30) && v.den) } := by
  unfold Vic.noteDen
  split
  case isTrue h => simp [h]
  case isFalse h =>
    have hden : (decide (v.raster = 0x30) && v.den) = false := by simpa using h
    rw [hden, Bool.or_false]

theorem Vic.compareRaster_eq_ite (v : Vic) : v.compareRaster = { v with
    irqLatch := if v.raster = v.rasterCmp ∧ v.rcycle = (if v.raster = 0 then 2 else 1) then v.irqLatch ||| 1
      else v.irqLatch } := by
  by_cases h : v.raster = v.rasterCmp ∧ v.rcycle = (if v.raster = 0 then 2 else 1)
  · rw [Vic.compareRaster, if_pos h, if_pos h]
  · rw [Vic.compareRaster, if_neg h, if_neg h]

theorem Vic.tick_registers (std : VideoStandard) (v : Vic) :
    let u := (v.tick std).1
    u.rcycle = (if v.newLine std then 1 else v.rcycle + 1) ∧
      u.raster = (if v.newFrame std then 0 else if v.newLine std then v.raster + 1 else v.raster) ∧
      (v.tick std).2 = v.newFrame std ∧
      u.denSeen = ((v.denSeen && !v.newFrame std) || (decide (u.raster = 0x30) && (v.read 0x11).1.getLsbD 4)) ∧
      u.irqLatch = (if u.raster = v.rasterCmp ∧ u.rcycle = (if u.raster = 0 then 2 else 1) then v.irqLatch ||| 1
        else v.irqLatch) ∧
      u = { v with rcycle := u.rcycle, raster := u.raster, denSeen := u.denSeen, irqLatch := u.irqLatch } := by
  rw [Vic.read_control_den, Vic.tick, Vic.advance_eq, Vic.noteDen_eq_or, Vic.compareRaster_eq_ite]
  exact ⟨rfl, rfl, rfl, rfl, rfl, rfl⟩

/-! ## The chip on the bus (20_memory.md R84) -/

theorem ioDevice_vic {j : Nat} (h : j < 0x400) : ioDevice (BitVec.ofNat 16 (0xD000 + j)) = .vic := by
  refine if_pos ?_
  rw [BitVec.lt_def, BitVec.toNat_ofNat]
  change _ < 0xD400
  omega

/-- The chip sees the low six bits of the address. -/
theorem extract_register (j : Nat) : (BitVec.ofNat 16 (0xD000 + j)).extractLsb' 0 6 = BitVec.ofNat 6 j := by
  apply BitVec.eq_of_toNat_eq
  rw [BitVec.extractLsb'_toNat, BitVec.toNat_ofNat, BitVec.toNat_ofNat, Nat.shiftRight_zero]
  omega

theorem State.busAccess_vic (s : State) (b : Byte) (j : Nat) (hj : j < 0x400)
    (hio : s.store (BitVec.ofNat 16 (0xD000 + j)) = .io) :
    let a := BitVec.ofNat 16 (0xD000 + j)
    let r := s.vic.read (BitVec.ofNat 6 j)
    s.busRead a = (r.1, { s with vic := r.2 }) ∧
      s.busWrite a b = { s with vic := s.vic.write (BitVec.ofNat 6 j) b } := by
  simp only [State.busRead, State.busWrite, hio, State.ioRead, State.ioWrite, ioDevice_vic hj, extract_register,
    and_self]

/-- Settles O47, register by register, then the tick and the bus. -/
theorem videoChipRegistersAndInterruptLatch : Obligations.VideoChipRegistersAndInterruptLatch := by
  intro v n b
  refine ⟨⟨v.irq_eq, v.read_control_toNat, v.read_raster_toNat, v.read_latch_toNat, v.read_enable_toNat, rfl, rfl,
    fun hss hsb => Vic.read_snd_of_ne hss hsb v⟩, v.write_control b, v.write_compare b, v.write_latch b,
    v.write_enable_toNat b, rfl, rfl, rfl, fun h => ⟨Vic.write_above h b v, Vic.read_above h v⟩,
    fun hlt hspecial hwf => Vic.read_write_plain ⟨hlt, hspecial⟩ b hwf, fun std => v.tick_registers std,
    fun s j hj hio => s.busAccess_vic b j hj hio⟩

end Sys2Proof.Machine

namespace Sys2Proof

/-! # Decoding and encoding (30_encoding.md R100, R103, R104, R121) -/

/-! ## The two bytes of a 16-bit operand (R103) -/

@[simp] theorem hiByte_wordOf (hi lo : Byte) : hiByte (wordOf hi lo) = hi := by
  rw [hiByte, wordOf, BitVec.extractLsb'_append_eq_of_le (le_refl 8), BitVec.extractLsb'_eq_self]

@[simp] theorem loByte_wordOf (hi lo : Byte) : loByte (wordOf hi lo) = lo := by
  rw [loByte, wordOf, BitVec.extractLsb'_append_eq_of_add_le (le_refl 8), BitVec.extractLsb'_eq_self]

@[simp] theorem wordOf_hiByte_loByte (w : Word) : wordOf (hiByte w) (loByte w) = w := by
  have hw : w.toNat < 2 ^ 16 := w.isLt
  apply BitVec.eq_of_toNat_eq
  rw [wordOf, hiByte, loByte, Machine.toNat_append_eq, BitVec.extractLsb'_toNat, BitVec.extractLsb'_toNat]
  omega

/-! ## One opcode byte -/

theorem opcodeLength_cases (op : Byte) : opcodeLength op = 1 ∨ opcodeLength op = 2 ∨ opcodeLength op = 3 := by
  unfold opcodeLength
  dsimp only
  repeat' split
  all_goals simp

theorem opcodeLength_bounds (op : Byte) : 1 ≤ opcodeLength op ∧ opcodeLength op ≤ 3 := by
  obtain h | h | h := opcodeLength_cases op <;> omega

/-- The bytes that an opcode byte's length selects from it and the two after it, written as `encode` writes them. -/
def selectedBytes (op b1 b2 : Byte) : List Byte :=
  match opcodeLength op with
  | 1 => bytes1 op
  | 2 => bytes2 op b1
  | _ => bytes3 op (wordOf b2 b1)

theorem selectedBytes_eq_take (op b1 b2 : Byte) : selectedBytes op b1 b2 = [op, b1, b2].take (opcodeLength op) := by
  obtain h | h | h := opcodeLength_cases op <;> simp [selectedBytes, h, bytes1, bytes2, bytes3]

/-- The opcode map, entry by entry: each computes on its own opcode byte and any operand bytes. -/
theorem encode_decodeBytes (op b1 b2 : Byte) : encode (decodeBytes op b1 b2) = selectedBytes op b1 b2 := by
  obtain ⟨n, hn, rfl⟩ : ∃ n < 256, op = BitVec.ofNat 8 n := ⟨op.toNat, op.isLt, by simp⟩
  interval_cases n <;> rfl

theorem encode_decodeBytes_eq_take (op b1 b2 : Byte) :
    encode (decodeBytes op b1 b2) = [op, b1, b2].take (opcodeLength op) := by
  rw [encode_decodeBytes, selectedBytes_eq_take]

/-! ## Decoding the bytes of an instruction -/

theorem decode_length_one {op : Byte} (hl : opcodeLength op = 1) (rest : List Byte) :
    decode (op :: rest) = .ok (decodeBytes op 0 0, rest) := by
  simp [decode, hl]

theorem decode_length_two {op : Byte} (hl : opcodeLength op = 2) (b1 : Byte) (rest : List Byte) :
    decode (op :: b1 :: rest) = .ok (decodeBytes op b1 0, rest) := by
  simp [decode, hl]

theorem decode_length_three {op : Byte} (hl : opcodeLength op = 3) (b1 b2 : Byte) (rest : List Byte) :
    decode (op :: b1 :: b2 :: rest) = .ok (decodeBytes op b1 b2, rest) := by
  simp [decode, hl]

/-- The bytes of `i` are one instruction, and decoding them followed by any others gives `i` and those others. -/
def ReadsBack (i : Instr) : Prop :=
  i.wellFormed = true ∧ ∀ rest, decode (encode i ++ rest) = .ok (i, rest)

theorem readsBack_of_bytes1 {op : Byte} {i : Instr} (he : encode i = bytes1 op) (hl : opcodeLength op = 1)
    (hd : decodeBytes op 0 0 = i) : ReadsBack i := by
  rw [ReadsBack, Instr.wellFormed, he]
  refine ⟨by simp [isOneInstruction, bytes1, hl], fun rest => ?_⟩
  rw [← hd]
  exact decode_length_one hl rest

theorem readsBack_of_bytes2 {op d : Byte} {i : Instr} (he : encode i = bytes2 op d) (hl : opcodeLength op = 2)
    (hd : decodeBytes op d 0 = i) : ReadsBack i := by
  rw [ReadsBack, Instr.wellFormed, he]
  refine ⟨by simp [isOneInstruction, bytes2, hl], fun rest => ?_⟩
  rw [← hd]
  exact decode_length_two hl d rest

theorem readsBack_of_bytes3 {op : Byte} {mk : Word → Instr} {w : Word} (he : encode (mk w) = bytes3 op w)
    (hl : opcodeLength op = 3) (hd : ∀ b1 b2, decodeBytes op b1 b2 = mk (wordOf b2 b1)) : ReadsBack (mk w) := by
  rw [ReadsBack, Instr.wellFormed, he]
  refine ⟨by simp [isOneInstruction, bytes3, hl], fun rest => ?_⟩
  have hw : decodeBytes op (loByte w) (hiByte w) = mk w := by rw [hd, wordOf_hiByte_loByte]
  rw [← hw]
  exact decode_length_three hl (loByte w) (hiByte w) rest

/-- Every entry of the opcode map reads back: those with an address, those with one operand byte, and the others by
their opcode byte alone. -/
theorem readsBack (i : Instr) : ReadsBack i := by
  cases i with
  | nopAbs0C | oraAbs | aslAbs | sloAbs | oraAby | sloAby | nopAbx1C | oraAbx | aslAbx | sloAbx | jsr | bitAbs |
      andAbs | rolAbs | rlaAbs | andAby | rlaAby | nopAbx3C | andAbx | rolAbx | rlaAbx | jmpAbs | eorAbs | lsrAbs
      | sreAbs | eorAby | sreAby | nopAbx5C | eorAbx | lsrAbx | sreAbx | jmpInd | adcAbs | rorAbs | rraAbs |
      adcAby | rraAby | nopAbx7C | adcAbx | rorAbx | rraAbx | styAbs | staAbs | stxAbs | saxAbs | staAby | tasAby
      | shyAbx | staAbx | shxAby | shaAby | ldyAbs | ldaAbs | ldxAbs | laxAbs | ldaAby | lasAby | ldyAbx | ldaAbx
      | ldxAby | laxAby | cpyAbs | cmpAbs | decAbs | dcpAbs | cmpAby | dcpAby | nopAbxDC | cmpAbx | decAbx |
      dcpAbx | cpxAbs | sbcAbs | incAbs | iscAbs | sbcAby | iscAby | nopAbxFC | sbcAbx | incAbx | iscAbx =>
    exact readsBack_of_bytes3 rfl rfl (fun _ _ => rfl)
  | oraIzx | sloIzx | nopZp04 | oraZp | aslZp | sloZp | oraImm | ancImm0B | bpl | oraIzy | sloIzy | nopZpx14 |
      oraZpx | aslZpx | sloZpx | andIzx | rlaIzx | bitZp | andZp | rolZp | rlaZp | andImm | ancImm2B | bmi |
      andIzy | rlaIzy | nopZpx34 | andZpx | rolZpx | rlaZpx | eorIzx | sreIzx | nopZp44 | eorZp | lsrZp | sreZp |
      eorImm | alrImm | bvc | eorIzy | sreIzy | nopZpx54 | eorZpx | lsrZpx | sreZpx | adcIzx | rraIzx | nopZp64 |
      adcZp | rorZp | rraZp | adcImm | arrImm | bvs | adcIzy | rraIzy | nopZpx74 | adcZpx | rorZpx | rraZpx |
      nopImm80 | staIzx | nopImm82 | saxIzx | styZp | staZp | stxZp | saxZp | nopImm89 | aneImm | bcc | staIzy |
      shaIzy | styZpx | staZpx | stxZpy | saxZpy | ldyImm | ldaIzx | ldxImm | laxIzx | ldyZp | ldaZp | ldxZp |
      laxZp | ldaImm | lxaImm | bcs | ldaIzy | laxIzy | ldyZpx | ldaZpx | ldxZpy | laxZpy | cpyImm | cmpIzx |
      nopImmC2 | dcpIzx | cpyZp | cmpZp | decZp | dcpZp | cmpImm | sbxImm | bne | cmpIzy | dcpIzy | nopZpxD4 |
      cmpZpx | decZpx | dcpZpx | cpxImm | sbcIzx | nopImmE2 | iscIzx | cpxZp | sbcZp | incZp | iscZp | sbcImm |
      sbcImmEB | beq | sbcIzy | iscIzy | nopZpxF4 | sbcZpx | incZpx | iscZpx =>
    exact readsBack_of_bytes2 rfl rfl rfl
  | _ => exact readsBack_of_bytes1 rfl rfl rfl

theorem decode_encode_append (i : Instr) (rest : List Byte) : decode (encode i ++ rest) = .ok (i, rest) :=
  (readsBack i).2 rest

/-- Settles O33, entry by entry of the opcode map. -/
theorem decodeInvertsEncode : Obligations.DecodeInvertsEncode :=
  fun i rest => ⟨(readsBack i).1, decode_encode_append i rest⟩

/-! ## Every byte string -/

/-- A string with an opcode byte ends before its instruction does, or begins with the bytes that are decoded. -/
theorem decode_cons_cases (op : Byte) (tl : List Byte) :
    (tl.length + 1 < opcodeLength op ∧ decode (op :: tl) = .error (.truncated op)) ∨
      ∃ b1 b2 rest, op :: tl = [op, b1, b2].take (opcodeLength op) ++ rest ∧
        decode (op :: tl) = .ok (decodeBytes op b1 b2, rest) := by
  obtain hl | hl | hl := opcodeLength_cases op
  · exact .inr ⟨0, 0, tl, by simp [hl], decode_length_one hl tl⟩
  · match tl with
    | [] => exact .inl (by simp [decode, hl])
    | b1 :: rest => exact .inr ⟨b1, 0, rest, by simp [hl], decode_length_two hl b1 rest⟩
  · match tl with
    | [] | [_] => exact .inl (by simp [decode, hl])
    | b1 :: b2 :: rest => exact .inr ⟨b1, b2, rest, by simp [hl], decode_length_three hl b1 b2 rest⟩

theorem eq_encode_append_of_decode {bs rest : List Byte} {i : Instr} (h : decode bs = .ok (i, rest)) :
    bs = encode i ++ rest := by
  match bs with
  | [] => simp [decode] at h
  | op :: tl =>
    obtain ⟨_, he⟩ | ⟨b1, b2, r, hbs, he⟩ := decode_cons_cases op tl
    · simp [he] at h
    · obtain ⟨rfl, rfl⟩ : decodeBytes op b1 b2 = i ∧ r = rest := by simpa [he] using h
      rw [encode_decodeBytes_eq_take, hbs]

theorem decode_error_iff (bs : List Byte) : (∃ e, decode bs = .error e) ↔
    bs = [] ∨ ∃ op tl, bs = op :: tl ∧ bs.length < opcodeLength op := by
  match bs with
  | [] => simp [decode]
  | op :: tl =>
    obtain ⟨hlen, he⟩ | ⟨b1, b2, rest, hbs, he⟩ := decode_cons_cases op tl
    · simpa [he] using hlen
    · have hlen : opcodeLength op ≤ tl.length + 1 := by
        have h := congrArg List.length hbs
        have hbound := (opcodeLength_bounds op).2
        simp only [List.length_cons, List.length_append, List.length_take, List.length_nil] at h
        omega
      simpa [he] using hlen

/-- Settles O34: the opcode map, then the two outcomes of decoding a string. -/
theorem encodeInvertsDecode : Obligations.EncodeInvertsDecode :=
  ⟨fun op b1 b2 => ⟨encode_decodeBytes_eq_take op b1 b2, opcodeLength_bounds op⟩,
    fun _ _ _ => eq_encode_append_of_decode, decode_error_iff⟩

/-- Settles O35: each word is the encoding of the instruction that the map gives for it. -/
theorem someWordsDecodeByTheTable : Obligations.SomeWordsDecodeByTheTable :=
  ⟨decode_encode_append (.ldaImm 0x80) [], decode_encode_append (.ldaAbx 0x10F0) [],
    decode_encode_append (.stxZpy 0xFF) [], decode_encode_append .pha [], decode_encode_append (.adcIzy 0x20) [],
    decode_encode_append (.lsrAbx 0x1234) [], decode_encode_append (.bne 0xFE) [],
    decode_encode_append (.jmpInd 0x10FF) [], decode_encode_append (.jsr 0xC000) [],
    decode_encode_append .brk [0xFF], decode_encode_append (.iscIzx 0x10) [],
    decode_encode_append (.shyAbx 0x20F0) [], decode_encode_append .jamB2 []⟩

end Sys2Proof

namespace Sys2Proof.Machine

/-! # The addressing modes (30_encoding.md R109 to R116, R119, R120) -/

/-! ## Zero page -/

theorem zeroPage_toNat (d : Byte) : (zeroPage d).toNat = d.toNat := by
  rw [zeroPage, wordOf, toNat_append_eq]
  simp

/-- Page zero holds the processor port and RAM in every bank configuration. -/
theorem State.store_zeroPage_ne_io (s : State) (d : Byte) : s.store (zeroPage d) ≠ .io := by
  have hd : (zeroPage d).toNat < 256 := by rw [zeroPage_toNat]; exact d.isLt
  by_cases h2 : 2 ≤ (zeroPage d).toNat
  · rw [s.store_low _ h2 (by omega)]
    decide
  · obtain h | h : zeroPage d = 0x0000 ∨ zeroPage d = 0x0001 := by bv_omega
    all_goals simp [State.store, storeOf, h]

/-- A dummy read in page zero is recorded and changes nothing else. -/
theorem dummyRead_zeroPage (d : Byte) (s : State) :
    dummyRead (zeroPage d) s = s.log (.read (zeroPage d) (s.peek (zeroPage d))) := by
  rw [dummyRead, memRead, s.busRead_pure _ (s.store_zeroPage_ne_io d)]
  rfl

theorem peek_dummyRead_zeroPage (d : Byte) (s : State) (a : Word) : (dummyRead (zeroPage d) s).peek a = s.peek a := by
  rw [dummyRead_zeroPage, State.peek_log]

/-- Both bytes of a pointer are those of the state before: the read of the low byte does not change the high one. -/
theorem readPointer_value (q : Byte) (s : State) : (readPointer q s).1 = s.pointer q := by
  change wordOf ((dummyRead (zeroPage q) s).peek (zeroPage (q + 1))) (s.peek (zeroPage q)) = s.pointer q
  rw [peek_dummyRead_zeroPage]
  rfl

theorem readPointer_state (q : Byte) (s : State) :
    (readPointer q s).2 = dummyRead (zeroPage (q + 1)) (dummyRead (zeroPage q) s) := rfl

theorem pointer_dummyRead_zeroPage (d q : Byte) (s : State) : (dummyRead (zeroPage d) s).pointer q = s.pointer q := by
  simp only [State.pointer, peek_dummyRead_zeroPage]

/-! ## The effective address (R101) -/

theorem zext16_eq_ofNat (v : Byte) : zext16 v = BitVec.ofNat 16 v.toNat := by
  apply BitVec.eq_of_toNat_eq
  simp [zext16]

theorem resolve_ea (k : AccessKind) (m : MemMode) (s : State) : (resolve k m s).1.ea = effectiveAddress m s := by
  cases m with
  | zp | zpx | zpy | abs => exact (BitVec.add_zero _).symm
  | abx | aby =>
    simp only [resolve, indexed_ea, zext16_eq_ofNat]
    rfl
  | izx =>
    simp only [resolve, Ea.plain, readPointer_value, pointer_dummyRead_zeroPage]
    exact (BitVec.add_zero _).symm
  | izy =>
    simp only [resolve, indexed_ea, zext16_eq_ofNat, readPointer_value, readPointer_cpu]
    rfl

/-! ## The index that crosses a page (R120) -/

theorem loByte_toNat (w : Word) : (loByte w).toNat = w.toNat % 256 := by
  rw [loByte, BitVec.extractLsb'_toNat, Nat.shiftRight_zero]

theorem indexed_toNat (base : Word) (index : Byte) :
    (base + zext16 index).toNat = (base.toNat + index.toNat) % 65536 := by
  rw [zext16_eq_ofNat, BitVec.toNat_add, BitVec.toNat_ofNat]
  omega

theorem unfixed_toNat (base : Word) (index : Byte) :
    (unfixed base index).toNat = 256 * (base.toNat / 256) + (base.toNat + index.toNat) % 256 := by
  have hb := base.isLt
  rw [unfixed, wordOf, toNat_append_eq, BitVec.toNat_add, loByte_toNat, hiByte, BitVec.extractLsb'_toNat,
    Nat.shiftRight_eq_div_pow]
  omega

/-- The corrected address differs from the uncorrected one when the sum of the low bytes carries. -/
theorem crosses_eq_decide (base : Word) (index : Byte) :
    crosses base index = decide (256 ≤ (loByte base).toNat + index.toNat) := by
  have hb := base.isLt
  have hi := index.isLt
  rw [crosses, bne, beq_eq_decide, ← decide_not, decide_eq_decide, ← BitVec.toNat_inj, indexed_toNat, unfixed_toNat,
    loByte_toNat]
  omega

theorem indexed_state_eq_foldl (k : AccessKind) (base : Word) (index : Byte) (s : State) :
    (indexed k base index s).2 =
      (if k ≠ .read ∨ 256 ≤ (loByte base).toNat + index.toNat then [unfixed base index] else []).foldl
        (fun u a => dummyRead a u) s := by
  rw [indexed, crosses_eq_decide]
  by_cases hk : k = .read <;> by_cases hc : 256 ≤ (loByte base).toNat + index.toNat <;> simp [hk, hc]

/-! ## The accesses that form the address (R109 to R116) -/

/-- The address cycles are the reads at the rule's addresses, in order, and do nothing else. -/
theorem resolve_state (k : AccessKind) (m : MemMode) (s : State) :
    (resolve k m s).2 = (addressCycles k m s).foldl (fun u a => dummyRead a u) s := by
  cases m with
  | zp | zpx | zpy | abs | izx => rfl
  | abx | aby =>
    simp only [resolve, indexed_state_eq_foldl, addressCycles, pageCrossed, decide_eq_true_eq]
    rfl
  | izy =>
    simp only [resolve, indexed_state_eq_foldl, addressCycles, pageCrossed, decide_eq_true_eq, List.foldl_append,
      readPointer_value, readPointer_cpu]
    rfl

theorem foldl_dummyRead_trace (as : List Word) (s : State) :
    (as.foldl (fun u a => dummyRead a u) s).trace.map BusAccess.addr = as.reverse ++ s.trace.map BusAccess.addr := by
  induction as generalizing s with
  | nil => rfl
  | cons a as ih => simp [ih, BusAccess.addr]

theorem resolve_trace (k : AccessKind) (m : MemMode) (s : State) :
    (resolve k m s).2.trace.map BusAccess.addr = (addressCycles k m s).reverse ++ s.trace.map BusAccess.addr := by
  rw [resolve_state, foldl_dummyRead_trace]

/-! ## The accesses to the operand (R108, R119) -/

/-- A modify reads, writes the old value back and writes the new one, all at one address. -/
theorem modifyAt_trace (ea : Word) (f : ByteOp) (s : State) :
    let old := (s.busRead ea).1
    (modifyAt ea f s).2.trace =
      .write ea (f old s.cpu.p.c).1 :: .write ea old :: .read ea old :: s.trace := by
  simp [modifyAt]

/-- Settles O41: the effective address and the address cycles of every mode, then the three access kinds. -/
theorem addressingModesMakeTheirAccesses : Obligations.AddressingModesMakeTheirAccesses := by
  intro m s v f
  refine ⟨fun k => ⟨resolve_ea k m s, resolve_cpu k m s, resolve_trace k m s, resolve_state k m s⟩, ?_, ?_, ?_⟩
  · rw [readOperand, resolve_ea, memRead]
  · rw [writeOperand, resolve_ea, memWrite]
  · rw [modify, resolve_ea]
    refine ⟨?_, ?_, ?_⟩
    · rw [modifyAt_value, resolve_cpu]
    · rw [modifyAt_trace, resolve_cpu]
    · rw [modifyAt_cpu, resolve_cpu]

end Sys2Proof.Machine

namespace Sys2Proof.Machine

/-! # Completed instructions

What an instruction does but for the side effects of its reads is its effect on `State.steady`: address cycles and
dummy reads leave that part alone, a bus write to it does not depend on the rest, and the bytes no device answers are
in it. -/

/-! ## A bus write does not depend on what reads change (20_memory.md R68, R69) -/

theorem Vic.setCompare_steady (cmp : BitVec 9) (v : Vic) :
    (v.steady.setCompare cmp).steady = (v.setCompare cmp).steady := by
  unfold Vic.setCompare
  rw [show v.steady.raster = v.raster from rfl, show v.steady.rasterCmp = v.rasterCmp from rfl]
  split <;> rfl

theorem Vic.write_steady (n : BitVec 6) (b : Byte) (v : Vic) :
    (v.steady.write n b).steady = (v.write n b).steady := by
  unfold Vic.write
  split
  case h_1 => exact Vic.setCompare_steady _ (v.store 0x11 (b &&& 0x7F))
  case h_2 => exact Vic.setCompare_steady _ v
  case h_7 => split <;> rfl
  all_goals rfl

@[simp] theorem Cia.updateIr_steady (c : Cia) : c.updateIr.steady = c.steady := by
  unfold Cia.updateIr
  split <;> rfl

@[simp] theorem Cia.setTod_steady (t : Tod) (c : Cia) : (c.setTod t).steady = { c with tod := t }.steady := by
  unfold Cia.setTod
  dsimp only
  split
  · exact Cia.updateIr_steady _
  · rfl

theorem Cia.writeTod_steady (k : Nat) (b : Byte) (c : Cia) :
    (c.steady.writeTod k b).steady = (c.writeTod k b).steady := by
  unfold Cia.writeTod
  rw [show c.steady.tb = c.tb from rfl]
  split
  · rw [Cia.setTod_steady, Cia.setTod_steady]
    rfl
  · rw [Cia.setTod_steady, Cia.setTod_steady]
    unfold Tod.writeClock
    split <;> rfl

theorem Cia.write_steady (n : BitVec 4) (b : Byte) (c : Cia) :
    (c.steady.write n b).steady = (c.write n b).steady := by
  unfold Cia.write
  split
  case h_10 =>
    rw [Cia.writeMask, Cia.writeMask, Cia.updateIr_steady, Cia.updateIr_steady]
    rfl
  case h_13 => exact c.writeTod_steady _ b
  all_goals rfl

theorem State.ioWrite_steady (a : Word) (v : Byte) (s : State) :
    (s.steady.ioWrite a v).steady = (s.ioWrite a v).steady := by
  unfold State.ioWrite
  split
  case h_1 => exact congrArg (fun x => { s.steady with vic := x }) (Vic.write_steady _ v s.vic)
  case h_4 => exact congrArg (fun x => { s.steady with cia1 := x }) (Cia.write_steady _ v s.cia1)
  case h_5 => exact congrArg (fun x => { s.steady with cia2 := x }) (Cia.write_steady _ v s.cia2)
  all_goals rfl

theorem State.writeUnderRom_steady (a : Word) (v : Byte) (s : State) :
    (s.steady.writeUnderRom a v).steady = (s.writeUnderRom a v).steady := by
  unfold State.writeUnderRom
  rw [show s.steady.params = s.params from rfl]
  split <;> rfl

theorem State.busWrite_steady (a : Word) (v : Byte) (s : State) :
    (s.steady.busWrite a v).steady = (s.busWrite a v).steady := by
  unfold State.busWrite
  rw [show s.steady.store a = s.store a from rfl]
  split
  case h_4 | h_5 | h_6 => exact s.writeUnderRom_steady a v
  case h_7 => exact s.ioWrite_steady a v
  all_goals rfl

/-- A write after reads is the write, but for the side effects of the reads. -/
theorem memWrite_steady_congr {s t : State} (h : t.steady = s.steady) (a : Word) (v : Byte) :
    (memWrite a v t).steady = (s.busWrite a v).steady := by
  change (t.busWrite a v).steady = (s.busWrite a v).steady
  rw [← t.busWrite_steady, h, s.busWrite_steady]

/-! ## Reads -/

@[simp] theorem dummyRead_steady (a : Word) (s : State) : (dummyRead a s).steady = s.steady :=
  (s.busRead_effect a).steady

@[simp] theorem dummyPc_steady (s : State) : (dummyPc s).steady = s.steady := dummyRead_steady _ s

@[simp] theorem foldl_dummyRead_steady (as : List Word) (s : State) :
    (as.foldl (fun u a => dummyRead a u) s).steady = s.steady := by
  induction as generalizing s with
  | nil => rfl
  | cons a as ih => rw [List.foldl_cons, ih, dummyRead_steady]

@[simp] theorem resolve_steady (k : AccessKind) (m : MemMode) (s : State) : (resolve k m s).2.steady = s.steady := by
  rw [resolve_state, foldl_dummyRead_steady]

@[simp] theorem readOperand_steady (o : Src) (s : State) : (readOperand o s).2.steady = s.steady := by
  cases o with
  | imm d => rfl
  | mem m => exact (dummyRead_steady _ _).trans (resolve_steady .read m s)

/-! ## The bytes that are kept -/

/-- A byte that no device answers is a byte of the port, of RAM or of a ROM. -/
theorem State.peek_congr {s t : State} (hddr : t.ddr = s.ddr) (hpr : t.pr = s.pr) (hram : t.ram = s.ram)
    (hparams : t.params = s.params) {a : Word} (hio : s.store a ≠ .io) : t.peek a = s.peek a := by
  have hstore : t.store a = s.store a := by rw [State.store, State.store, State.bank, State.bank, hddr, hpr]
  unfold State.peek State.busRead
  rw [hstore, State.portValue, State.portValue, hddr, hpr, hram, hparams]
  split
  case h_7 h => exact absurd h hio
  all_goals rfl

theorem State.stores_of_steady {s t : State} (h : t.steady = s.steady) :
    t.ddr = s.ddr ∧ t.pr = s.pr ∧ t.ram = s.ram ∧ t.colorRam = s.colorRam ∧ t.params = s.params := by
  have hfields := congrArg (fun u : State => (u.ddr, u.pr, u.ram, u.colorRam, u.params)) h
  simp only [Prod.mk.injEq] at hfields
  exact hfields

theorem State.peek_of_steady {s t : State} (h : t.steady = s.steady) {a : Word} (hio : s.store a ≠ .io) :
    t.peek a = s.peek a := by
  obtain ⟨hddr, hpr, hram, -, hparams⟩ := State.stores_of_steady h
  exact State.peek_congr hddr hpr hram hparams hio

/-- Neither the registers nor the devices are among the bytes that no device answers. -/
theorem State.peek_withCpu (c : Cpu) {s : State} {a : Word} (hio : s.store a ≠ .io) :
    (s.withCpu c).peek a = s.peek a :=
  State.peek_congr (s := s) (t := s.withCpu c) rfl rfl rfl rfl hio

/-- Registers and the side effects of reads are no bytes of memory. -/
theorem MemoryKeptBut.of_steady_withCpu {s t : State} {c : Cpu} (h : t.steady = (s.withCpu c).steady) :
    MemoryKeptBut [] s t := by
  obtain ⟨-, -, hram, hcolor, -⟩ := State.stores_of_steady h
  refine ⟨fun _ a _ hio => ?_, fun k _ => by rw [hram]; rfl, fun k _ => by rw [hcolor]; rfl⟩
  exact (State.peek_of_steady (s := s.withCpu c) h hio).trans (State.peek_withCpu c hio)

theorem State.busWrite_port {s : State} {a : Word} (v : Byte) (hd : s.store a ≠ .portDirection)
    (hp : s.store a ≠ .portData) : (s.busWrite a v).ddr = s.ddr ∧ (s.busWrite a v).pr = s.pr := by
  unfold State.busWrite State.writeUnderRom
  split
  case h_1 h => exact absurd h hd
  case h_2 h => exact absurd h hp
  case h_3 => exact ⟨rfl, rfl⟩
  case h_4 | h_5 | h_6 => split <;> exact ⟨rfl, rfl⟩
  case h_7 =>
    obtain ⟨_, _, _, _, _, h⟩ := State.ioWrite_eq a v s
    rw [h]
    exact ⟨rfl, rfl⟩

/-- A write changes no other byte that no device answers, unless it moves the map. -/
theorem State.peek_busWrite_other {s : State} {a b : Word} (v : Byte) (hd : s.store a ≠ .portDirection)
    (hp : s.store a ≠ .portData) (hne : b ≠ a) (hio : s.store b ≠ .io) : (s.busWrite a v).peek b = s.peek b := by
  have hram : (s.writeRam a v).peek b = s.peek b := State.peek_writeRam_other v hne hio
  unfold State.busWrite State.writeUnderRom
  split
  case h_1 h => exact absurd h hd
  case h_2 h => exact absurd h hp
  case h_3 => exact hram
  case h_4 | h_5 | h_6 =>
    split
    · exact hram
    · rfl
  case h_7 =>
    obtain ⟨_, _, _, _, _, h⟩ := State.ioWrite_eq a v s
    exact State.peek_congr (by rw [h]) (by rw [h]) (by rw [h]) (by rw [h]) hio

theorem State.busWrite_colorRam_other {s : State} {a : Word} (v : Byte) {k : Nat}
    (hk : s.store a ≠ .io ∨ ioDevice a ≠ .color ∨ k ≠ (a.extractLsb' 0 10).toNat) :
    (s.busWrite a v).colorRam.read k = s.colorRam.read k := by
  unfold State.busWrite State.writeUnderRom
  split
  case h_4 | h_5 | h_6 => split <;> rfl
  case h_7 hio =>
    unfold State.ioWrite
    split
    case h_3 hcolor =>
      have hk : k ≠ (a.extractLsb' 0 10).toNat := (hk.resolve_left (not_not.2 hio)).resolve_left (not_not.2 hcolor)
      exact Memory.read_write_other s.colorRam _ k _ hk
    all_goals rfl
  all_goals rfl

/-- A bus write keeps every byte but the one at its address. -/
theorem MemoryKeptBut.of_steady_busWrite {s t : State} {a : Word} {v : Byte}
    (h : t.steady = (s.busWrite a v).steady) : MemoryKeptBut [a] s t := by
  obtain ⟨-, -, hram, hcolor, -⟩ := State.stores_of_steady h
  refine ⟨fun hport b hb hio => ?_, fun k hk => ?_, fun k hk => ?_⟩
  · obtain ⟨hd, hp⟩ := hport a (List.mem_singleton_self a)
    obtain ⟨hddr, hpr⟩ := State.busWrite_port v hd hp
    have hstore : (s.busWrite a v).store b = s.store b := by rw [State.store, State.bank, hddr, hpr]; rfl
    rw [State.peek_of_steady h (hstore ▸ hio)]
    exact State.peek_busWrite_other v hd hp (List.ne_of_not_mem_cons hb) hio
  · rw [hram]
    exact s.busWrite_ram_other a v k (hk a (List.mem_singleton_self a))
  · rw [hcolor]
    exact State.busWrite_colorRam_other v (hk a (List.mem_singleton_self a))

/-! ## Accesses of an operand (30_encoding.md R108 to R116, 70_reset_and_hazards.md R420) -/

/-- The bus accesses of `ReadOperand`. -/
def readCycles : Src → State → Nat
  | .imm _, _ => 0
  | .mem (.zp _), _ => 1
  | .mem (.zpx _), _ => 2
  | .mem (.zpy _), _ => 2
  | .mem (.abs _), _ => 1
  | .mem (.abx w), s => 1 + crossExtra (.abx w) s
  | .mem (.aby w), s => 1 + crossExtra (.aby w) s
  | .mem (.izx _), _ => 4
  | .mem (.izy d), s => 3 + crossExtra (.izy d) s

/-- The bus accesses of `WriteOperand`. -/
def writeCycles : MemMode → Nat
  | .zp _ => 1
  | .zpx _ => 2
  | .zpy _ => 2
  | .abs _ => 1
  | .abx _ => 2
  | .aby _ => 2
  | .izx _ => 4
  | .izy _ => 4

theorem resolve_trace_length (k : AccessKind) (m : MemMode) (s : State) :
    (resolve k m s).2.trace.length = (addressCycles k m s).length + s.trace.length := by
  have h : ((resolve k m s).2.trace.map BusAccess.addr).length = _ := congrArg List.length (resolve_trace k m s)
  simpa using h

theorem addressCycles_read_length (m : MemMode) (s : State) :
    (addressCycles .read m s).length + 1 = readCycles (.mem m) s := by
  cases m with
  | zp | zpx | zpy | abs | izx => rfl
  | abx | aby | izy =>
    simp only [addressCycles, readCycles, crossExtra, ne_eq, not_true_eq_false, false_or, List.length_append]
    split <;> rfl

theorem addressCycles_write_length (m : MemMode) (s : State) :
    (addressCycles .write m s).length + 1 = writeCycles m := by
  cases m <;> rfl

theorem readOperand_trace_length (o : Src) (s : State) :
    (readOperand o s).2.trace.length = readCycles o s + s.trace.length := by
  cases o with
  | imm d => exact (Nat.zero_add _).symm
  | mem m =>
    rw [readOperand, memRead_trace, List.length_cons, resolve_trace_length, ← addressCycles_read_length]
    omega

theorem writeOperand_trace_length (m : MemMode) (v : Byte) (s : State) :
    (writeOperand m v s).trace.length = writeCycles m + s.trace.length := by
  rw [writeOperand, memWrite_trace, List.length_cons, resolve_trace_length, ← addressCycles_write_length m s]
  omega

/-! ## Completion -/

/-- An instruction that makes `n` reads and then writes registers alone. -/
theorem completes_of_reads {i : Instr} {op : Byte} {s t u : State} {c : Cpu} {n cycles : Nat}
    (hop : (encode i).head? = some op) (hexec : exec i s = .next t) (hwrites : t = u.withCpu c)
    (hsteady : u.steady = s.steady) (htrace : u.trace.length = n + s.trace.length)
    (hcycles : fetchedBytes op + n = cycles) : Completes i op cycles s (s.withCpu c) [] := by
  subst hwrites
  have hresult : (u.withCpu c).steady = (s.withCpu c).steady := congrArg (State.withCpu c) hsteady
  refine ⟨hop, _, hexec, hresult, .of_steady_withCpu hresult, ?_⟩
  rw [show (u.withCpu c).trace = u.trace from rfl, htrace, ← hcycles, Nat.add_assoc]

/-- An instruction that reads an operand and then writes registers alone. -/
theorem completes_of_readOperand {i : Instr} {op : Byte} {o : Src} {s t : State} {c : Cpu} {cycles : Nat}
    (hop : (encode i).head? = some op) (hexec : exec i s = .next t)
    (hwrites : t = (readOperand o s).2.withCpu c) (hcycles : fetchedBytes op + readCycles o s = cycles) :
    Completes i op cycles s (s.withCpu c) [] :=
  completes_of_reads hop hexec hwrites (readOperand_steady o s) (readOperand_trace_length o s) hcycles

/-- An instruction of one byte that makes its dummy read and then writes registers alone. -/
theorem completes_of_dummyPc {i : Instr} {op : Byte} {s t : State} {c : Cpu}
    (hop : (encode i).head? = some op) (hexec : exec i s = .next t)
    (hwrites : t = (dummyPc s).withCpu c) (hlength : fetchedBytes op = 1) : Completes i op 2 s (s.withCpu c) [] := by
  refine completes_of_reads (n := 1) hop hexec hwrites (dummyPc_steady s) ?_ (by rw [hlength])
  rw [dummyPc_trace, List.length_cons, Nat.add_comm]

/-- An instruction that writes one byte to its operand. -/
theorem completes_of_writeOperand {i : Instr} {op v : Byte} {m : MemMode} {s : State} {cycles : Nat}
    (hop : (encode i).head? = some op) (hexec : exec i s = .next (writeOperand m v s))
    (hcycles : fetchedBytes op + writeCycles m = cycles) :
    Completes i op cycles s (s.busWrite (resolve .write m s).1.ea v) [(resolve .write m s).1.ea] := by
  have hresult : (writeOperand m v s).steady = (s.busWrite (resolve .write m s).1.ea v).steady :=
    memWrite_steady_congr (resolve_steady .write m s) _ v
  refine ⟨hop, _, hexec, hresult, .of_steady_busWrite hresult, ?_⟩
  rw [writeOperand_trace_length, ← hcycles, Nat.add_assoc]

end Sys2Proof.Machine

namespace Sys2Proof.Machine

/-! # Loads, stores and transfers (40_load_store_transfer.md R141 to R152) -/

/-! ## The registers a load or a transfer writes -/

theorem Flags.setNZ_eq_withNZ (v : Byte) (p : Flags) : p.setNZ v = p.withNZ v := by
  rw [Flags.setNZ, Flags.withNZ, BitVec.msb_eq_getLsbD_last, beq_eq_decide]

theorem State.loadA_eq_withCpu (v : Byte) (s : State) :
    s.loadA v = s.withCpu { s.cpu with a := v, p := s.cpu.p.withNZ v } := by
  rw [← Flags.setNZ_eq_withNZ]
  rfl

theorem State.loadX_eq_withCpu (v : Byte) (s : State) :
    s.loadX v = s.withCpu { s.cpu with x := v, p := s.cpu.p.withNZ v } := by
  rw [← Flags.setNZ_eq_withNZ]
  rfl

theorem State.loadY_eq_withCpu (v : Byte) (s : State) :
    s.loadY v = s.withCpu { s.cpu with y := v, p := s.cpu.p.withNZ v } := by
  rw [← Flags.setNZ_eq_withNZ]
  rfl

/-! ## Loads -/

theorem opLda_eq (o : Src) (s : State) : opLda o s = (readOperand o s).2.withCpu
    { s.cpu with a := (readOperand o s).1, p := s.cpu.p.withNZ (readOperand o s).1 } := by
  rw [opLda, State.loadA_eq_withCpu, readOperand_cpu]

theorem opLdx_eq (o : Src) (s : State) : opLdx o s = (readOperand o s).2.withCpu
    { s.cpu with x := (readOperand o s).1, p := s.cpu.p.withNZ (readOperand o s).1 } := by
  rw [opLdx, State.loadX_eq_withCpu, readOperand_cpu]

theorem opLdy_eq (o : Src) (s : State) : opLdy o s = (readOperand o s).2.withCpu
    { s.cpu with y := (readOperand o s).1, p := s.cpu.p.withNZ (readOperand o s).1 } := by
  rw [opLdy, State.loadY_eq_withCpu, readOperand_cpu]

/-- A page crossing adds its cycle to those of the read without one. -/
theorem fetched_add_crossed {op : Byte} {n k e : Nat} (h : fetchedBytes op + n = k) :
    fetchedBytes op + (n + e) = k + e := by
  omega

/-- Settles O1: every form is a read of its operand, then a load of the register. -/
theorem loadsSetTheRegisterAndNZ : Obligations.LoadsSetTheRegisterAndNZ := by
  intro s d w
  simp only [List.forall_mem_cons, List.not_mem_nil, false_imp_iff, implies_true, and_true]
  refine ⟨⟨?izx, ?zp, ?imm, ?abs, ?izy, ?zpx, ?aby, ?abx⟩, ⟨?ximm, ?xzp, ?xabs, ?xzpy, ?xaby⟩,
    ⟨?yimm, ?yzp, ?yabs, ?yzpx, ?yabx⟩⟩
  case izx | zp | imm | abs | zpx => exact completes_of_readOperand rfl rfl (opLda_eq _ s) rfl
  case izy | aby | abx => exact completes_of_readOperand rfl rfl (opLda_eq _ s) (fetched_add_crossed rfl)
  case ximm | xzp | xabs | xzpy => exact completes_of_readOperand rfl rfl (opLdx_eq _ s) rfl
  case xaby => exact completes_of_readOperand rfl rfl (opLdx_eq _ s) (fetched_add_crossed rfl)
  case yimm | yzp | yabs | yzpx => exact completes_of_readOperand rfl rfl (opLdy_eq _ s) rfl
  case yabx => exact completes_of_readOperand rfl rfl (opLdy_eq _ s) (fetched_add_crossed rfl)

/-! ## Stores -/

/-- Settles O2: every form is a write of the register to its operand. -/
theorem storesWriteOneByte : Obligations.StoresWriteOneByte := by
  intro s d w
  simp only [List.forall_mem_cons, List.not_mem_nil, false_imp_iff, implies_true, and_true]
  refine ⟨⟨?_, ?_, ?_, ?_, ?_, ?_, ?_⟩, ⟨?_, ?_, ?_⟩, ⟨?_, ?_, ?_⟩⟩
  all_goals exact completes_of_writeOperand rfl rfl rfl

/-! ## Transfers -/

theorem opTax_eq (s : State) :
    opTax s = (dummyPc s).withCpu { s.cpu with x := s.cpu.a, p := s.cpu.p.withNZ s.cpu.a } := by
  rw [opTax, State.loadX_eq_withCpu, dummyPc_cpu]

theorem opTay_eq (s : State) :
    opTay s = (dummyPc s).withCpu { s.cpu with y := s.cpu.a, p := s.cpu.p.withNZ s.cpu.a } := by
  rw [opTay, State.loadY_eq_withCpu, dummyPc_cpu]

theorem opTxa_eq (s : State) :
    opTxa s = (dummyPc s).withCpu { s.cpu with a := s.cpu.x, p := s.cpu.p.withNZ s.cpu.x } := by
  rw [opTxa, State.loadA_eq_withCpu, dummyPc_cpu]

theorem opTya_eq (s : State) :
    opTya s = (dummyPc s).withCpu { s.cpu with a := s.cpu.y, p := s.cpu.p.withNZ s.cpu.y } := by
  rw [opTya, State.loadA_eq_withCpu, dummyPc_cpu]

theorem opTsx_eq (s : State) :
    opTsx s = (dummyPc s).withCpu { s.cpu with x := s.cpu.s, p := s.cpu.p.withNZ s.cpu.s } := by
  rw [opTsx, State.loadX_eq_withCpu, dummyPc_cpu]

theorem opTxs_eq (s : State) : opTxs s = (dummyPc s).withCpu { s.cpu with s := s.cpu.x } := by
  rw [opTxs, State.setS, dummyPc_cpu]
  rfl

/-- Settles O3: each transfer makes its dummy read, then loads the register; TXS writes S alone. -/
theorem transfersCopyTheRegister : Obligations.TransfersCopyTheRegister := fun s =>
  ⟨completes_of_dummyPc rfl rfl (opTax_eq s) rfl,
    completes_of_dummyPc rfl rfl (opTay_eq s) rfl,
    completes_of_dummyPc rfl rfl (opTxa_eq s) rfl,
    completes_of_dummyPc rfl rfl (opTya_eq s) rfl,
    completes_of_dummyPc rfl rfl (opTsx_eq s) rfl,
    completes_of_dummyPc rfl rfl (opTxs_eq s) rfl⟩

end Sys2Proof.Machine

namespace Sys2Proof.Machine

/-! # The stack (41_stack.md R160 to R164) -/

/-! ## The status byte (10_state.md R27) -/

/-- A bit appended below a bit pattern doubles its number and adds the bit. -/
theorem toNat_append_ofBool {w : Nat} (x : BitVec w) (b : Bool) :
    (x ++ BitVec.ofBool b).toNat = x.toNat * 2 + b.toNat := BitVec.toNat_concat x b

theorem Flags.toByte_eq_pushedStatus (p : Flags) (brk : Bool) : p.toByte brk = pushedStatus p brk := by
  have hnum : (p.toByte brk).toNat = 128 * p.n.toNat + 64 * p.v.toNat + 32 + 16 * brk.toNat + 8 * p.d.toNat
      + 4 * p.i.toNat + 2 * p.z.toNat + p.c.toNat := by
    simp only [Flags.toByte, toNat_append_ofBool, show (1#1) = BitVec.ofBool true from rfl, BitVec.toNat_ofBool,
      Bool.toNat_true]
    omega
  rw [pushedStatus, ← hnum, BitVec.ofNat_toNat, BitVec.setWidth_eq]

theorem Flags.ofByte_eq_flagsIn (b : Byte) : Flags.ofByte b = flagsIn b := rfl

/-! ## Bytes kept by stores one after another -/

/-- What a first part of an instruction keeps and a second part keeps, both keep, when the first does not move
the map. -/
theorem MemoryKeptBut.trans {first second : List Word} {s t u : State} (h : MemoryKeptBut first s t)
    (h' : MemoryKeptBut second t u) (hmap : t.store = s.store) : MemoryKeptBut (first ++ second) s u := by
  refine ⟨fun hport a ha hio => ?_, fun k hk => ?_, fun k hk => ?_⟩
  · rw [List.mem_append, not_or] at ha
    rw [List.forall_mem_append, ← hmap] at hport
    exact (h'.bytes hport.2 a ha.2 (hmap ▸ hio)).trans (h.bytes (hmap ▸ hport.1) a ha.1 hio)
  · rw [List.forall_mem_append] at hk
    exact (h'.ram k hk.2).trans (h.ram k hk.1)
  · rw [List.forall_mem_append] at hk
    exact (h'.color k (hmap ▸ hk.2)).trans (h.color k hk.1)

/-- Storing a byte of the stack keeps every other byte. -/
theorem MemoryKeptBut.writeStack (sp v : Byte) (s : State) :
    MemoryKeptBut [stackAddr sp] s (s.writeRam (stackAddr sp) v) :=
  .of_steady_busWrite (congrArg State.steady (s.busWrite_ram_value _ v (s.store_stack sp)).symm)

/-! ## Pushes -/

/-- A push stores a byte and moves S, whatever the reads before it did to the devices. -/
theorem push_steady_congr {s t : State} (h : t.steady = s.steady) (v : Byte) : (push v t).steady =
    ((s.writeRam (stackAddr s.cpu.s) v).withCpu { s.cpu with s := s.cpu.s - 1 }).steady := by
  rw [push_eq]
  exact congrArg (fun u : State => (u.writeRam (stackAddr u.cpu.s) v).withCpu { u.cpu with s := u.cpu.s - 1 }) h

theorem push_trace (v : Byte) (s : State) : (push v s).trace = .write (stackAddr s.cpu.s) v :: s.trace := by
  rw [push_eq]
  rfl

/-- An instruction of one byte that makes its dummy read and then pushes a byte. -/
theorem completes_of_push {i : Instr} {op v : Byte} {s : State} (hop : (encode i).head? = some op)
    (hexec : exec i s = .next (push v (dummyPc s))) (hlength : fetchedBytes op = 1) :
    Completes i op 3 s ((s.writeRam (stackAddr s.cpu.s) v).withCpu { s.cpu with s := s.cpu.s - 1 })
      [stackAddr s.cpu.s] := by
  have hresult := push_steady_congr (dummyPc_steady s) v
  have hkept : MemoryKeptBut ([stackAddr s.cpu.s] ++ []) s (push v (dummyPc s)) :=
    (MemoryKeptBut.writeStack s.cpu.s v s).trans (.of_steady_withCpu hresult) rfl
  refine ⟨hop, _, hexec, hresult, hkept, ?_⟩
  rw [push_trace, dummyPc_trace, hlength, List.length_cons, List.length_cons]
  omega

/-- Settles O4: each push stores its byte of the stack; PHP's byte is the status byte with bits 5 and 4 set. -/
theorem pushesStoreAndMoveTheStackPointer : Obligations.PushesStoreAndMoveTheStackPointer := by
  intro s
  rw [← Flags.toByte_eq_pushedStatus]
  exact ⟨completes_of_push rfl rfl rfl, completes_of_push rfl rfl rfl⟩

/-! ## Pulls -/

@[simp] theorem dummyPc_ram (s : State) : (dummyPc s).ram = s.ram := dummyRead_ram _ s

@[simp] theorem dummyStack_steady (s : State) : (dummyStack s).steady = s.steady := dummyRead_steady _ s
@[simp] theorem dummyStack_cpu (s : State) : (dummyStack s).cpu = s.cpu := dummyRead_cpu _ s
@[simp] theorem dummyStack_ram (s : State) : (dummyStack s).ram = s.ram := dummyRead_ram _ s
@[simp] theorem dummyStack_trace (s : State) :
    (dummyStack s).trace = .read (stackAddr s.cpu.s) (s.busRead (stackAddr s.cpu.s)).1 :: s.trace :=
  dummyRead_trace _ s

/-- A pull is a read of the byte above S, then S moves. -/
theorem pull_eq_withCpu (s : State) : pull s = (s.ram.read (stackAddr (s.cpu.s + 1)).toNat,
    (dummyRead (stackAddr (s.cpu.s + 1)) s).withCpu { s.cpu with s := s.cpu.s + 1 }) := by
  rw [pull_eq, dummyRead, memRead, State.busRead_pure _ s (by simp), State.busRead_ram_value _ s (s.store_stack _)]
  rfl

/-- The three accesses of PLA and PLP after their opcode: the dummy reads at PC and at the old S, and the pull. -/
def pullReads (s : State) : State := dummyRead (stackAddr (s.cpu.s + 1)) (dummyStack (dummyPc s))

@[simp] theorem pullReads_steady (s : State) : (pullReads s).steady = s.steady := by
  simp [pullReads]

theorem pullReads_trace_length (s : State) : (pullReads s).trace.length = 3 + s.trace.length := by
  simp [pullReads]
  omega

/-- The pull behind the two dummy reads gives the byte at the new stack address. -/
theorem pull_dummyStack_dummyPc (s : State) : pull (dummyStack (dummyPc s)) =
    (s.ram.read (stackAddr (s.cpu.s + 1)).toNat, (pullReads s).withCpu { s.cpu with s := s.cpu.s + 1 }) := by
  simp only [pull_eq_withCpu, dummyStack_cpu, dummyStack_ram, dummyPc_cpu, dummyPc_ram, pullReads]

theorem opPla_eq (s : State) : opPla s = (pullReads s).withCpu { s.cpu with
    a := s.ram.read (stackAddr (s.cpu.s + 1)).toNat
    s := s.cpu.s + 1
    p := s.cpu.p.withNZ (s.ram.read (stackAddr (s.cpu.s + 1)).toNat) } := by
  rw [opPla, pull_dummyStack_dummyPc, State.loadA_eq_withCpu]
  rfl

theorem opPlp_eq (s : State) : opPlp s = (pullReads s).withCpu { s.cpu with
    s := s.cpu.s + 1
    p := flagsIn (s.ram.read (stackAddr (s.cpu.s + 1)).toNat) } := by
  rw [opPlp, pullFlags, pull_dummyStack_dummyPc, Flags.ofByte_eq_flagsIn]
  rfl

/-- An instruction of one byte that pulls a byte and then writes registers alone. -/
theorem completes_of_pullReads {i : Instr} {op : Byte} {s t : State} {c : Cpu}
    (hop : (encode i).head? = some op) (hexec : exec i s = .next t) (hwrites : t = (pullReads s).withCpu c)
    (hlength : fetchedBytes op = 1) : Completes i op 4 s (s.withCpu c) [] :=
  completes_of_reads hop hexec hwrites (pullReads_steady s) (pullReads_trace_length s) (by rw [hlength])

/-- Settles O5: each pull makes its two dummy reads, then its register takes the byte above S. -/
theorem pullsLoadAndMoveTheStackPointer : Obligations.PullsLoadAndMoveTheStackPointer := fun s =>
  ⟨completes_of_pullReads rfl rfl (opPla_eq s) rfl, completes_of_pullReads rfl rfl (opPlp_eq s) rfl⟩

end Sys2Proof.Machine

namespace Sys2Proof.Machine

/-! # Modifying an operand (30_encoding.md R119) -/

/-! ## Bus writes and the registers -/

/-- A bus write neither reads nor writes a register. -/
theorem State.busWrite_withCpu (a : Word) (v : Byte) (c : Cpu) (s : State) :
    (s.withCpu c).busWrite a v = (s.busWrite a v).withCpu c := by
  unfold State.busWrite State.writeUnderRom
  rw [show (s.withCpu c).store a = s.store a from rfl, show (s.withCpu c).params = s.params from rfl]
  split
  case h_4 | h_5 | h_6 => split <;> rfl
  case h_7 =>
    unfold State.ioWrite
    split <;> rfl
  all_goals rfl

theorem memWrite_withCpu (a : Word) (v : Byte) (c : Cpu) (s : State) :
    memWrite a v (s.withCpu c) = (memWrite a v s).withCpu c := by
  rw [memWrite, State.busWrite_withCpu]
  rfl

theorem State.setP_eq_withCpu (p : Flags) (s : State) : s.setP p = s.withCpu { s.cpu with p := p } := rfl

theorem State.setC_eq_withCpu (b : Bool) (s : State) :
    s.setC b = s.withCpu { s.cpu with p := s.cpu.p.withC b } := rfl

theorem State.setNZ_eq_withCpu (v : Byte) (s : State) :
    s.setNZ v = s.withCpu { s.cpu with p := s.cpu.p.withNZ v } := by
  rw [← Flags.setNZ_eq_withNZ]
  rfl

/-! ## Two writes at one address -/

/-- The port shows at its two addresses alone (20_memory.md R80). -/
theorem storeOf_ne_port {a : Word} (h0 : a ≠ 0x0000) (h1 : a ≠ 0x0001) (b : BitVec 3) :
    storeOf b a ≠ .portDirection ∧ storeOf b a ≠ .portData := by
  rw [storeOf, if_neg h0, if_neg h1]
  split_ifs <;> decide

theorem State.store_busWrite {s : State} {a : Word} (v : Byte) (hd : s.store a ≠ .portDirection)
    (hp : s.store a ≠ .portData) : (s.busWrite a v).store = s.store := by
  obtain ⟨hddr, hpr⟩ := State.busWrite_port v hd hp
  funext b
  rw [State.store, State.bank, hddr, hpr]
  rfl

/-- A write of the port may move the map, but not the port. -/
theorem State.store_busWrite_self (a : Word) (v : Byte) (s : State) : (s.busWrite a v).store a = s.store a := by
  by_cases h0 : a = 0x0000
  · subst h0
    rfl
  by_cases h1 : a = 0x0001
  · subst h1
    rfl
  obtain ⟨hd, hp⟩ := storeOf_ne_port h0 h1 s.bank
  rw [State.store_busWrite v hd hp]

/-- A second write at the address of the first keeps every byte outside it too. -/
theorem MemoryKeptBut.busWrite_again {s t : State} {a : Word} {v : Byte} (h : MemoryKeptBut [a] (s.busWrite a v) t) :
    MemoryKeptBut [a] s t := by
  have hfirst : MemoryKeptBut [a] s (s.busWrite a v) := .of_steady_busWrite rfl
  refine ⟨fun hport b hb hio => ?_, fun k hk => ?_, fun k hk => ?_⟩
  · obtain ⟨hd, hp⟩ := hport a (List.mem_singleton_self a)
    have hmap : (s.busWrite a v).store = s.store := State.store_busWrite v hd hp
    rw [h.bytes (hmap ▸ hport) b hb (hmap ▸ hio), hfirst.bytes hport b hb hio]
  · rw [h.ram k hk, hfirst.ram k hk]
  · rw [← hfirst.color k hk]
    refine h.color k ?_
    rw [List.forall_mem_singleton] at hk ⊢
    rwa [State.store_busWrite_self]

/-! ## The accesses of a modify -/

/-- The bus accesses of `Modify`: those of a write, before it a read and a write. -/
def modifyCycles (m : MemMode) : Nat := writeCycles m + 2

/-- A modify is a read and two writes; of the registers it writes the carry alone. -/
theorem modifyAt_state (ea : Word) (f : ByteOp) (s : State) :
    let o := f (s.busRead ea).1 s.cpu.p.c
    (modifyAt ea f s).2 = (memWrite ea o.1 (memWrite ea (s.busRead ea).1 (dummyRead ea s))).withCpu
      { s.cpu with p := s.cpu.p.withC o.2 } := by
  simp only [modifyAt, memRead_value, State.setC_eq_withCpu, memWrite_withCpu, memWrite_cpu, memRead_cpu]
  rfl

theorem addressCycles_modify_length (m : MemMode) (s : State) :
    (addressCycles .modify m s).length + 3 = modifyCycles m := by
  cases m <;> rfl

theorem modify_trace_length (m : MemMode) (f : ByteOp) (s : State) :
    (modify m f s).2.trace.length = modifyCycles m + s.trace.length := by
  rw [modify, modifyAt_trace, List.length_cons, List.length_cons, List.length_cons, resolve_trace_length,
    ← addressCycles_modify_length m s]
  omega

/-- A modify writes the old byte back and then the new one, whatever its reads did to the devices. -/
theorem modify_withCpu_steady (m : MemMode) (f : ByteOp) (c : Cpu) (s : State) :
    let ea := (resolve .modify m s).1.ea
    let old := ((resolve .modify m s).2.busRead ea).1
    ((modify m f s).2.withCpu c).steady =
      (((s.busWrite ea old).busWrite ea (f old s.cpu.p.c).1).withCpu c).steady := by
  intro ea old
  have hread : (dummyRead ea (resolve .modify m s).2).steady = s.steady := by
    rw [dummyRead_steady, resolve_steady]
  have hwrites := memWrite_steady_congr (memWrite_steady_congr hread ea old) ea (f old s.cpu.p.c).1
  rw [modify, modifyAt_state, resolve_cpu]
  exact congrArg (State.withCpu c) hwrites

/-- An instruction that modifies its operand and then writes registers alone. -/
theorem completes_of_modify {i : Instr} {op : Byte} {m : MemMode} {f : ByteOp} {s t : State} {c : Cpu} {cycles : Nat}
    (hop : (encode i).head? = some op) (hexec : exec i s = .next t) (hwrites : t = (modify m f s).2.withCpu c)
    (hcycles : fetchedBytes op + modifyCycles m = cycles) :
    let ea := (resolve .modify m s).1.ea
    let old := ((resolve .modify m s).2.busRead ea).1
    Completes i op cycles s (((s.busWrite ea old).busWrite ea (f old s.cpu.p.c).1).withCpu c) [ea] := by
  intro ea old
  subst hwrites
  have hresult := modify_withCpu_steady m f c s
  have hstored : ((modify m f s).2.withCpu c).steady =
      (((s.withCpu c).busWrite ea old).busWrite ea (f old s.cpu.p.c).1).steady := by
    rw [State.busWrite_withCpu, State.busWrite_withCpu]
    exact hresult
  have hkept : MemoryKeptBut ([] ++ [ea]) s ((modify m f s).2.withCpu c) :=
    (MemoryKeptBut.of_steady_withCpu (c := c) rfl).trans (.busWrite_again (.of_steady_busWrite hstored)) rfl
  refine ⟨hop, _, hexec, hresult, hkept, ?_⟩
  rw [show ((modify m f s).2.withCpu c).trace = (modify m f s).2.trace from rfl, modify_trace_length, ← hcycles,
    Nat.add_assoc]

/-- `opModify` writes N and Z of its result and the carry of its operation. -/
theorem opModify_eq (f : ByteOp) (m : MemMode) (s : State) :
    let ea := (resolve .modify m s).1.ea
    let o := f ((resolve .modify m s).2.busRead ea).1 s.cpu.p.c
    opModify f m s = (modify m f s).2.withCpu { s.cpu with p := (s.cpu.p.withNZ o.1).withC o.2 } := by
  simp only [opModify, State.setNZ_eq_withCpu, modify, modifyAt_value, modifyAt_cpu, resolve_cpu]
  rfl

end Sys2Proof.Machine

namespace Sys2Proof.Machine

/-! # The adder (42_arithmetic.md R171, R172) -/

/-! ## Bytes as numbers -/

theorem bit_eq_toNat (b : Bool) : bit b = b.toNat := by cases b <;> rfl

theorem toNat_decide (p : Prop) [Decidable p] : (decide p).toNat = if p then 1 else 0 := Bool.cond_decide p 1 0

theorem loDigit_eq (b : Byte) : loDigit b = b.toNat % 16 := by
  rw [loDigit, BitVec.extractLsb'_toNat, Nat.shiftRight_zero]

theorem hiDigit_eq (b : Byte) : hiDigit b = b.toNat / 16 := by
  have hb := b.isLt
  rw [hiDigit, BitVec.extractLsb'_toNat, Nat.shiftRight_eq_div_pow]
  omega

theorem ofDigits_toNat (hi lo : BitVec 4) : (ofDigits hi lo).toNat = 16 * hi.toNat + lo.toNat :=
  toNat_append_eq hi lo

/-- Flipping every bit counts down from 255. -/
theorem complement_toNat (m : Byte) : (m ^^^ 0xFF).toNat = 255 - m.toNat := by
  rw [show (0xFF : Byte) = BitVec.allOnes 8 from rfl, BitVec.xor_allOnes, BitVec.toNat_not]

theorem getLsbD_seven_iff (b : Byte) : b.getLsbD 7 = true ↔ 128 ≤ b.toNat := by
  have h : b.msb = decide (128 ≤ b.toNat) := BitVec.msb_eq_decide b
  rw [← BitVec.msb_eq_getLsbD_last, h, decide_eq_true_eq]

/-- Bit 7 of an exclusive or tells two signs apart. -/
theorem getLsbD_seven_xor_iff (a b : Byte) : (a ^^^ b).getLsbD 7 = true ↔ ¬(128 ≤ a.toNat ↔ 128 ≤ b.toNat) := by
  rw [← getLsbD_seven_iff, ← getLsbD_seven_iff, BitVec.getLsbD_xor]
  cases a.getLsbD 7 <;> cases b.getLsbD 7 <;> decide

/-- A byte read as a signed number. -/
theorem toInt_eq_ite (b : Byte) : b.toInt = if 128 ≤ b.toNat then (b.toNat : Int) - 256 else b.toNat := by
  rw [BitVec.toInt_eq_toNat_cond]
  split <;> split <;> omega

theorem toInt_complement (m : Byte) : (m ^^^ 0xFF).toInt = -1 - m.toInt := by
  have hm := m.isLt
  rw [toInt_eq_ite, toInt_eq_ite, complement_toNat]
  split <;> split <;> omega

/-! ## Signed overflow -/

theorem addOverflow_eq (a m r : Byte) : addOverflow a m r = ((a ^^^ r) &&& (m ^^^ r)).getLsbD 7 :=
  BitVec.msb_eq_getLsbD_last _

/-- The sum of two signed bytes and a carry is out of range when the result has neither operand's sign. -/
theorem addOverflow_eq_decide {a m r : Byte} {c : Bool} (hr : r.toNat = (a.toNat + m.toNat + c.toNat) % 256) :
    addOverflow a m r =
      decide (a.toInt + m.toInt + c.toNat < -128 ∨ 127 < a.toInt + m.toInt + c.toNat) := by
  have ha := a.isLt
  have hm := m.isLt
  have hc := c.toNat_le
  rw [addOverflow_eq, Bool.eq_iff_iff, BitVec.getLsbD_and, Bool.and_eq_true, getLsbD_seven_xor_iff,
    getLsbD_seven_xor_iff, decide_eq_true_eq, toInt_eq_ite, toInt_eq_ite, hr]
  split <;> split <;> omega

/-- With a complemented operand the overflow compares the signs of the operands themselves. -/
theorem addOverflow_complement (a m r : Byte) :
    addOverflow a (m ^^^ 0xFF) r = ((a ^^^ m) &&& (a ^^^ r)).getLsbD 7 := by
  have hm := m.isLt
  rw [addOverflow_eq, Bool.eq_iff_iff]
  simp only [BitVec.getLsbD_and, Bool.and_eq_true, getLsbD_seven_xor_iff, complement_toNat]
  omega

/-! ## Binary addition and subtraction -/

theorem addBinary_r_toNat (a m : Byte) (c : Bool) :
    (addBinary a m c).r.toNat = (a.toNat + m.toNat + c.toNat) % 256 := by
  rw [← bit_eq_toNat]
  exact BitVec.toNat_ofNat _ 8

theorem addBinary_c (a m : Byte) (c : Bool) :
    (addBinary a m c).c = decide (256 ≤ a.toNat + m.toNat + c.toNat) := by
  rw [← bit_eq_toNat]
  rfl

theorem addBinary_n (a m : Byte) (c : Bool) : (addBinary a m c).n = (addBinary a m c).r.getLsbD 7 :=
  BitVec.msb_eq_getLsbD_last (addBinary a m c).r

theorem addBinary_z (a m : Byte) (c : Bool) : (addBinary a m c).z = decide ((addBinary a m c).r = 0) :=
  beq_eq_decide _ _

theorem addBinary_v (a m : Byte) (c : Bool) : (addBinary a m c).v = addOverflow a m (addBinary a m c).r := rfl

/-! ## Decimal addition (R171) -/

/-- The correction of a digit's sum: six more than a sum above nine. -/
def digitSum (n : Nat) : Nat := if 9 < n then n + 6 else n

/-- The corrected sum of the lower digits and the carry. -/
def lowSum (a m : Byte) (c : Bool) : Nat := digitSum (a.toNat % 16 + m.toNat % 16 + c.toNat)

/-- The sum of the upper digits and the carry out of the lower ones, not yet corrected. -/
def highSum (a m : Byte) (c : Bool) : Nat := a.toNat / 16 + m.toNat / 16 + if 15 < lowSum a m c then 1 else 0

theorem addDecimal_eq (a m : Byte) (c : Bool) :
    let mid := ofDigits (BitVec.ofNat 4 (highSum a m c)) 0
    addDecimal a m c =
      { r := ofDigits (BitVec.ofNat 4 (digitSum (highSum a m c))) (BitVec.ofNat 4 (lowSum a m c))
        n := mid.msb
        v := addOverflow a m mid
        z := BitVec.ofNat 8 (a.toNat + m.toNat + c.toNat) == 0
        c := decide (15 < digitSum (highSum a m c)) } := by
  simp only [addDecimal, loDigit_eq, hiDigit_eq, bit_eq_toNat]
  rfl

theorem addDecimal_r_toNat (a m : Byte) (c : Bool) :
    (addDecimal a m c).r.toNat = 16 * (digitSum (highSum a m c) % 16) + lowSum a m c % 16 := by
  rw [addDecimal_eq, ofDigits_toNat, BitVec.toNat_ofNat, BitVec.toNat_ofNat]

theorem addDecimal_c (a m : Byte) (c : Bool) : (addDecimal a m c).c = decide (15 < digitSum (highSum a m c)) := by
  rw [addDecimal_eq]

theorem addDecimal_z (a m : Byte) (c : Bool) :
    (addDecimal a m c).z = decide ((a.toNat + m.toNat + c.toNat) % 256 = 0) := by
  rw [addDecimal_eq, beq_eq_decide, decide_eq_decide, ← BitVec.toNat_inj, BitVec.toNat_ofNat]
  rfl

/-- The intermediate result is the upper digit's sum with a zero below it. -/
theorem ofDigits_zero (n : Nat) : ofDigits (BitVec.ofNat 4 n) 0 = BitVec.ofNat 8 (16 * (n % 16)) := by
  apply BitVec.eq_of_toNat_eq
  rw [ofDigits_toNat, BitVec.toNat_ofNat, BitVec.toNat_ofNat, show (0 : BitVec 4).toNat = 0 from rfl]
  omega

theorem addDecimal_v (a m : Byte) (c : Bool) :
    (addDecimal a m c).v = addOverflow a m (BitVec.ofNat 8 (16 * (highSum a m c % 16))) := by
  rw [addDecimal_eq, ofDigits_zero]

theorem addDecimal_n (a m : Byte) (c : Bool) : (addDecimal a m c).n = decide (8 ≤ highSum a m c % 16) := by
  rw [addDecimal_eq, ofDigits_zero, BitVec.msb_eq_decide, decide_eq_decide, BitVec.toNat_ofNat]
  omega

/-- Settles O7: binary addition is the sum of numbers, decimal addition is one digit after the other. -/
theorem addWithCarryByTheRule : Obligations.AddWithCarryByTheRule := by
  intro a m c
  refine ⟨⟨addBinary_r_toNat a m c, addBinary_c a m c, addBinary_n a m c, addBinary_z a m c, ?_, ?_⟩,
    ⟨addDecimal_z a m c, addDecimal_n a m c, ?_, addDecimal_c a m c, addDecimal_r_toNat a m c⟩⟩
  · exact addOverflow_eq a m (addBinary a m c).r
  · exact addOverflow_eq_decide (addBinary_r_toNat a m c)
  · exact (addDecimal_v a m c).trans (addOverflow_eq _ _ _)

/-! ## Subtraction (R172) -/

theorem subBinary_r_toNat (a m : Byte) (c : Bool) :
    (subBinary a m c).r.toNat = (a.toNat + (255 - m.toNat) + c.toNat) % 256 := by
  rw [subBinary, addBinary_r_toNat, complement_toNat]

theorem subBinary_c (a m : Byte) (c : Bool) :
    (subBinary a m c).c = decide (256 ≤ a.toNat + (255 - m.toNat) + c.toNat) := by
  rw [subBinary, addBinary_c, complement_toNat]

theorem subBinary_v (a m : Byte) (c : Bool) : (subBinary a m c).v =
    decide (a.toInt - m.toInt - (1 - c.toNat) < -128 ∨ 127 < a.toInt - m.toInt - (1 - c.toNat)) := by
  have hdiff : a.toInt + (m ^^^ 0xFF).toInt + c.toNat = a.toInt - m.toInt - (1 - c.toNat) := by
    rw [toInt_complement]
    omega
  rw [← hdiff]
  exact addOverflow_eq_decide (addBinary_r_toNat a (m ^^^ 0xFF) c)

/-- The correction of a digit's difference: six less than a negative one. -/
def digitDifference (n : Int) : Int := if n < 0 then n - 6 else n

/-- The difference of the lower digits and the borrow, not yet corrected. -/
def lowDifference (a m : Byte) (c : Bool) : Int := (a.toNat : Int) % 16 - (m.toNat : Int) % 16 - (1 - c.toNat)

/-- The difference of the upper digits and the borrow of the lower ones, not yet corrected. -/
def highDifference (a m : Byte) (c : Bool) : Int :=
  (a.toNat : Int) / 16 - (m.toNat : Int) / 16 - if lowDifference a m c < 0 then 1 else 0

/-- The binary carry of a subtraction is the absence of a borrow out of its upper digit. -/
theorem subBinary_c_eq_highDifference (a m : Byte) (c : Bool) :
    (subBinary a m c).c = decide (0 ≤ highDifference a m c) := by
  have hm := m.isLt
  have hc := c.toNat_le
  rw [subBinary_c, decide_eq_decide, highDifference, lowDifference]
  omega

theorem subDecimalResult_eq (a m : Byte) (c : Bool) : subDecimalResult a m c =
    ofDigits (BitVec.ofInt 4 (digitDifference (highDifference a m c)))
      (BitVec.ofInt 4 (digitDifference (lowDifference a m c))) := by
  have hlow : ((a.toNat % 16 : Nat) : Int) - (m.toNat % 16 : Nat) - (1 - (c.toNat : Nat)) = lowDifference a m c := rfl
  have hhigh : (if lowDifference a m c < 0 then ((a.toNat / 16 : Nat) : Int) - (m.toNat / 16 : Nat) - 1
      else ((a.toNat / 16 : Nat) : Int) - (m.toNat / 16 : Nat)) = highDifference a m c := by
    rw [highDifference]
    split <;> omega
  simp only [subDecimalResult, loDigit_eq, hiDigit_eq, bit_eq_toNat, hlow, hhigh]
  rfl

theorem subDecimalResult_toNat (a m : Byte) (c : Bool) : ((subDecimalResult a m c).toNat : Int) =
    16 * (digitDifference (highDifference a m c) % 16) + digitDifference (lowDifference a m c) % 16 := by
  rw [subDecimalResult_eq, ofDigits_toNat, BitVec.toNat_ofInt, BitVec.toNat_ofInt]
  omega

/-- Settles O8: subtraction adds the complement; decimal mode changes the result alone, one digit after the other. -/
theorem subWithBorrowByTheRule : Obligations.SubWithBorrowByTheRule := by
  intro a m c
  refine ⟨⟨subBinary_r_toNat a m c, subBinary_c a m c, addBinary_n a _ c, addBinary_z a _ c, ?_, subBinary_v a m c⟩,
    ⟨rfl, rfl, rfl, rfl, subDecimalResult_toNat a m c⟩⟩
  exact addOverflow_complement a m (subBinary a m c).r

/-! ## Decimal numbers -/

/-- The number that a byte's two decimal digits stand for. -/
def decimalValue (b : Byte) : Int := 10 * ((b.toNat : Int) / 16) + (b.toNat : Int) % 16

theorem digitSum_of_le {n : Nat} (h : n ≤ 19) :
    digitSum n % 16 ≤ 9 ∧ digitSum n % 16 + 10 * (if 15 < digitSum n then 1 else 0) = n := by
  unfold digitSum
  split <;> split <;> omega

theorem digitDifference_of_le {n : Int} (hlo : -10 ≤ n) (hhi : n ≤ 9) :
    digitDifference n % 16 ≤ 9 ∧ digitDifference n % 16 = n + 10 * (if n < 0 then 1 else 0) := by
  unfold digitDifference
  split <;> omega

section
variable {a m : Byte} (hal : a.toNat % 16 ≤ 9) (hah : a.toNat / 16 ≤ 9) (hml : m.toNat % 16 ≤ 9)
  (hmh : m.toNat / 16 ≤ 9)
include hal hah hml hmh

/-- Each corrected digit is the sum's digit, and its carry the sum's carry. -/
theorem addDecimal_of_decimal (c : Bool) :
    decimalValue (addDecimal a m c).r + 100 * (addDecimal a m c).c.toNat =
      decimalValue a + decimalValue m + c.toNat ∧
    (addDecimal a m c).r.toNat % 16 ≤ 9 ∧ (addDecimal a m c).r.toNat / 16 ≤ 9 := by
  have hc := c.toNat_le
  have hlow : lowSum a m c % 16 ≤ 9 ∧
      lowSum a m c % 16 + 10 * (if 15 < lowSum a m c then 1 else 0) = a.toNat % 16 + m.toNat % 16 + c.toNat :=
    digitSum_of_le (by omega)
  have hhigh := digitSum_of_le (n := highSum a m c) (by rw [highSum]; split <;> omega)
  have hsum : highSum a m c = a.toNat / 16 + m.toNat / 16 + if 15 < lowSum a m c then 1 else 0 := rfl
  rw [decimalValue, decimalValue, decimalValue, addDecimal_r_toNat, addDecimal_c, toNat_decide]
  omega

/-- Each corrected digit is the difference's digit, and its borrow the difference's borrow. -/
theorem subDecimal_of_decimal (c : Bool) :
    decimalValue (subDecimalResult a m c) =
      decimalValue a - decimalValue m - (1 - c.toNat) + 100 * (1 - (subBinary a m c).c.toNat) ∧
    (subDecimalResult a m c).toNat % 16 ≤ 9 ∧ (subDecimalResult a m c).toNat / 16 ≤ 9 := by
  have hc := c.toNat_le
  have hlowDiff : lowDifference a m c = (a.toNat : Int) % 16 - (m.toNat : Int) % 16 - (1 - c.toNat) := rfl
  have hhighDiff : highDifference a m c =
    (a.toNat : Int) / 16 - (m.toNat : Int) / 16 - if lowDifference a m c < 0 then 1 else 0 := rfl
  have hlow := digitDifference_of_le (n := lowDifference a m c) (by omega) (by omega)
  have hhigh := digitDifference_of_le (n := highDifference a m c) (by omega) (by omega)
  have hr := subDecimalResult_toNat a m c
  rw [decimalValue, decimalValue, decimalValue, subBinary_c_eq_highDifference, toNat_decide, Nat.cast_ite]
  omega

end

/-- Settles O9: the corrections make each digit decimal and carry or borrow ten. -/
theorem decimalModeAddsAndSubtractsDecimalNumbers : Obligations.DecimalModeAddsAndSubtractsDecimalNumbers := by
  intro a m c hal hah hml hmh
  obtain ⟨hadd, haddLow, haddHigh⟩ := addDecimal_of_decimal hal hah hml hmh c
  obtain ⟨hsub, hsubLow, hsubHigh⟩ := subDecimal_of_decimal hal hah hml hmh c
  exact ⟨hadd, hsub, haddLow, haddHigh, hsubLow, hsubHigh⟩

end Sys2Proof.Machine

namespace Sys2Proof.Machine

/-! # Arithmetic, compares, increments and decrements (42_arithmetic.md R171 to R184) -/

/-! ## Instructions of the adder (R174, R175) -/

theorem State.setAlu_eq_withCpu (o : AluResult) (s : State) :
    s.setAlu o = s.withCpu { s.cpu with a := o.r, p := s.cpu.p.withAdder o } := rfl

theorem opAdc_eq (o : Src) (s : State) :
    let r := addWithCarry s.cpu.a (readOperand o s).1 s.cpu.p.c s.cpu.p.d
    opAdc o s = (readOperand o s).2.withCpu { s.cpu with a := r.r, p := s.cpu.p.withAdder r } := by
  rw [opAdc, State.setAlu_eq_withCpu, readOperand_cpu]

theorem opSbc_eq (o : Src) (s : State) :
    let r := subWithBorrow s.cpu.a (readOperand o s).1 s.cpu.p.c s.cpu.p.d
    opSbc o s = (readOperand o s).2.withCpu { s.cpu with a := r.r, p := s.cpu.p.withAdder r } := by
  rw [opSbc, State.setAlu_eq_withCpu, readOperand_cpu]

/-- Settles O6: every form is a read of its operand, then the adder's result. -/
theorem adcAndSbcWriteAdderResults : Obligations.AdcAndSbcWriteAdderResults := by
  intro s d w
  simp only [List.forall_mem_cons, List.not_mem_nil, false_imp_iff, implies_true, and_true]
  refine ⟨⟨?izx, ?zp, ?imm, ?abs, ?izy, ?zpx, ?aby, ?abx⟩, ⟨?sizx, ?szp, ?simm, ?sabs, ?sizy, ?szpx, ?saby, ?sabx⟩⟩
  case izx | zp | imm | abs | zpx => exact completes_of_readOperand rfl rfl (opAdc_eq _ s) rfl
  case izy | aby | abx => exact completes_of_readOperand rfl rfl (opAdc_eq _ s) (fetched_add_crossed rfl)
  case sizx | szp | simm | sabs | szpx => exact completes_of_readOperand rfl rfl (opSbc_eq _ s) rfl
  case sizy | saby | sabx => exact completes_of_readOperand rfl rfl (opSbc_eq _ s) (fetched_add_crossed rfl)

/-! ## Compares (R173, R176 to R178) -/

theorem Flags.compare_eq_withCompare (r m : Byte) (p : Flags) : p.compare r m = p.withCompare r m := by
  rw [Flags.compare, Flags.withCompare, BitVec.msb_eq_getLsbD_last, beq_eq_decide]
  rfl

theorem opCompare_eq (reg : Cpu → Byte) (o : Src) (s : State) : opCompare reg o s = (readOperand o s).2.withCpu
    { s.cpu with p := s.cpu.p.withCompare (reg s.cpu) (readOperand o s).1 } := by
  rw [opCompare, State.setP_eq_withCpu, readOperand_cpu, Flags.compare_eq_withCompare]

/-- Settles O10: every form is a read of its operand, then a comparison with the register. -/
theorem comparesSetNZC : Obligations.ComparesSetNZC := by
  intro s d w
  simp only [List.forall_mem_cons, List.not_mem_nil, false_imp_iff, implies_true, and_true]
  refine ⟨⟨?izx, ?zp, ?imm, ?abs, ?izy, ?zpx, ?aby, ?abx⟩, ⟨?ximm, ?xzp, ?xabs⟩, ⟨?yimm, ?yzp, ?yabs⟩⟩
  case izx | zp | imm | abs | zpx => exact completes_of_readOperand rfl rfl (opCompare_eq Cpu.a _ s) rfl
  case izy | aby | abx => exact completes_of_readOperand rfl rfl (opCompare_eq Cpu.a _ s) (fetched_add_crossed rfl)
  case ximm | xzp | xabs => exact completes_of_readOperand rfl rfl (opCompare_eq Cpu.x _ s) rfl
  case yimm | yzp | yabs => exact completes_of_readOperand rfl rfl (opCompare_eq Cpu.y _ s) rfl

/-! ## Increments and decrements (R179 to R184) -/

/-- Settles O11: every form modifies its operand; the carry given back is the carry before it. -/
theorem incAndDecModifyMemory : Obligations.IncAndDecModifyMemory := by
  intro s d w
  simp only [List.forall_mem_cons, List.not_mem_nil, false_imp_iff, implies_true, and_true]
  refine ⟨⟨?zp, ?abs, ?zpx, ?abx⟩, ⟨?dzp, ?dabs, ?dzpx, ?dabx⟩⟩
  case zp | abs | zpx | abx => exact completes_of_modify rfl rfl (opModify_eq increment _ s) rfl
  case dzp | dabs | dzpx | dabx => exact completes_of_modify rfl rfl (opModify_eq decrement _ s) rfl

theorem opInx_eq (s : State) : opInx s = (dummyPc s).withCpu
    { s.cpu with x := s.cpu.x + 1, p := s.cpu.p.withNZ (s.cpu.x + 1) } := by
  rw [opInx, State.loadX_eq_withCpu, dummyPc_cpu]

theorem opIny_eq (s : State) : opIny s = (dummyPc s).withCpu
    { s.cpu with y := s.cpu.y + 1, p := s.cpu.p.withNZ (s.cpu.y + 1) } := by
  rw [opIny, State.loadY_eq_withCpu, dummyPc_cpu]

theorem opDex_eq (s : State) : opDex s = (dummyPc s).withCpu
    { s.cpu with x := s.cpu.x - 1, p := s.cpu.p.withNZ (s.cpu.x - 1) } := by
  rw [opDex, State.loadX_eq_withCpu, dummyPc_cpu]

theorem opDey_eq (s : State) : opDey s = (dummyPc s).withCpu
    { s.cpu with y := s.cpu.y - 1, p := s.cpu.p.withNZ (s.cpu.y - 1) } := by
  rw [opDey, State.loadY_eq_withCpu, dummyPc_cpu]

/-- Settles O12: each makes its dummy read, then loads the register with its neighbour. -/
theorem indexRegistersStepByOne : Obligations.IndexRegistersStepByOne := fun s =>
  ⟨completes_of_dummyPc rfl rfl (opInx_eq s) rfl,
    completes_of_dummyPc rfl rfl (opIny_eq s) rfl,
    completes_of_dummyPc rfl rfl (opDex_eq s) rfl,
    completes_of_dummyPc rfl rfl (opDey_eq s) rfl⟩

end Sys2Proof.Machine

namespace Sys2Proof.Machine

/-! # Logic, BIT, shifts and rotates (43_logic_shift.md R190 to R198) -/

/-! ## AND, ORA and EOR (R191 to R193) -/

theorem opLogic_eq (g : Byte → Byte → Byte) (o : Src) (s : State) :
    let r := g s.cpu.a (readOperand o s).1
    opLogic g o s = (readOperand o s).2.withCpu { s.cpu with a := r, p := s.cpu.p.withNZ r } := by
  rw [opLogic, State.loadA_eq_withCpu, readOperand_cpu]

/-- Settles O13: every form is a read of its operand, then a load of the accumulator with the combination. -/
theorem logicCombinesTheAccumulator : Obligations.LogicCombinesTheAccumulator := by
  intro s d w
  simp only [List.forall_mem_cons, List.not_mem_nil, false_imp_iff, implies_true, and_true]
  refine ⟨⟨?izx, ?zp, ?imm, ?abs, ?izy, ?zpx, ?aby, ?abx⟩, ⟨?oizx, ?ozp, ?oimm, ?oabs, ?oizy, ?ozpx, ?oaby, ?oabx⟩,
    ⟨?eizx, ?ezp, ?eimm, ?eabs, ?eizy, ?ezpx, ?eaby, ?eabx⟩⟩
  case izx | zp | imm | abs | zpx => exact completes_of_readOperand rfl rfl (opLogic_eq (· &&& ·) _ s) rfl
  case izy | aby | abx =>
    exact completes_of_readOperand rfl rfl (opLogic_eq (· &&& ·) _ s) (fetched_add_crossed rfl)
  case oizx | ozp | oimm | oabs | ozpx => exact completes_of_readOperand rfl rfl (opLogic_eq (· ||| ·) _ s) rfl
  case oizy | oaby | oabx =>
    exact completes_of_readOperand rfl rfl (opLogic_eq (· ||| ·) _ s) (fetched_add_crossed rfl)
  case eizx | ezp | eimm | eabs | ezpx => exact completes_of_readOperand rfl rfl (opLogic_eq (· ^^^ ·) _ s) rfl
  case eizy | eaby | eabx =>
    exact completes_of_readOperand rfl rfl (opLogic_eq (· ^^^ ·) _ s) (fetched_add_crossed rfl)

/-! ## BIT (R194) -/

theorem Flags.bitTest_eq (a m : Byte) (p : Flags) :
    p.bitTest a m = { p with n := m.getLsbD 7, v := m.getLsbD 6, z := decide (a &&& m = 0) } := by
  rw [Flags.bitTest, beq_eq_decide]

theorem opBit_eq (o : Src) (s : State) :
    let m := (readOperand o s).1
    opBit o s = (readOperand o s).2.withCpu { s.cpu with
      p := { s.cpu.p with n := m.getLsbD 7, v := m.getLsbD 6, z := decide (s.cpu.a &&& m = 0) } } := by
  rw [opBit, State.setP_eq_withCpu, readOperand_cpu, Flags.bitTest_eq]

/-- Settles O14: both forms are a read of their operand, then the flags of the test. -/
theorem bitTestsMemory : Obligations.BitTestsMemory := by
  intro s d w
  simp only [List.forall_mem_cons, List.not_mem_nil, false_imp_iff, implies_true, and_true]
  exact ⟨completes_of_readOperand rfl rfl (opBit_eq _ s) rfl, completes_of_readOperand rfl rfl (opBit_eq _ s) rfl⟩

/-! ## The bit a rotation brings in (R197, R198) -/

/-- The carry fills the bit that a shift to the left leaves empty below the other seven. -/
theorem rotateLeft_eq (old : Byte) (c : Bool) :
    rotateLeft old c = (old <<< 1 ||| BitVec.ofNat 8 c.toNat, old.getLsbD 7) := by
  refine Prod.ext (BitVec.eq_of_toNat_eq ?_) rfl
  have hc := c.toNat_le
  have hshift : (old <<< 1).toNat = 2 ^ 1 * (old.toNat % 128) := by
    rw [BitVec.toNat_shiftLeft, Nat.shiftLeft_eq]
    omega
  have hcarry : (BitVec.ofNat 8 c.toNat).toNat = c.toNat := Nat.mod_eq_of_lt (by omega)
  change (old.extractLsb' 0 7 ++ BitVec.ofBool c).toNat = _
  rw [toNat_append_eq, BitVec.extractLsb'_toNat, BitVec.toNat_ofBool, Nat.shiftRight_zero, BitVec.toNat_or, hshift,
    hcarry, ← Nat.two_pow_add_eq_or_of_lt (by omega)]

/-- The carry fills the bit that a shift to the right leaves empty above the other seven. -/
theorem rotateRight_eq (old : Byte) (c : Bool) :
    rotateRight old c = (old >>> 1 ||| BitVec.ofNat 8 (128 * c.toNat), old.getLsbD 0) := by
  refine Prod.ext (BitVec.eq_of_toNat_eq ?_) rfl
  have hold := old.isLt
  have hc := c.toNat_le
  have hshift : (old >>> 1).toNat = old.toNat / 2 := by
    rw [BitVec.toNat_ushiftRight, Nat.shiftRight_one]
  have hcarry : (BitVec.ofNat 8 (128 * c.toNat)).toNat = 2 ^ 7 * c.toNat := Nat.mod_eq_of_lt (by omega)
  change (BitVec.ofBool c ++ old.extractLsb' 1 7).toNat = _
  rw [toNat_append_eq, BitVec.extractLsb'_toNat, BitVec.toNat_ofBool, Nat.shiftRight_one, BitVec.toNat_or, hshift,
    hcarry, Nat.or_comm, ← Nat.two_pow_add_eq_or_of_lt (by omega), Nat.mod_eq_of_lt (by omega)]

/-! ## Shifts and rotates (R195 to R198) -/

theorem opShiftA_eq (f : ByteOp) (s : State) :
    let o := f s.cpu.a s.cpu.p.c
    opShiftA f s = (dummyPc s).withCpu { s.cpu with a := o.1, p := (s.cpu.p.withNZ o.1).withC o.2 } := by
  simp only [opShiftA, State.setC_eq_withCpu, State.loadA_eq_withCpu, dummyPc_cpu]
  rfl

/-- A shift or rotate of the accumulator, by what its operation gives. -/
theorem completes_of_opShiftA {i : Instr} {op new : Byte} {out : Bool} {f : ByteOp} {s : State}
    (hop : (encode i).head? = some op) (hexec : exec i s = .next (opShiftA f s))
    (hf : f s.cpu.a s.cpu.p.c = (new, out)) (hlength : fetchedBytes op = 1) :
    Completes i op 2 s (s.withCpu { s.cpu with a := new, p := (s.cpu.p.withNZ new).withC out }) [] := by
  refine completes_of_dummyPc hop hexec ?_ hlength
  rw [opShiftA_eq, hf]

/-- A shift or rotate of memory, by what its operation gives. -/
theorem completes_of_opModify {i : Instr} {op new : Byte} {out : Bool} {m : MemMode} {f : ByteOp} {s : State}
    {cycles : Nat} (hop : (encode i).head? = some op) (hexec : exec i s = .next (opModify f m s))
    (hf : f ((resolve .modify m s).2.busRead (resolve .modify m s).1.ea).1 s.cpu.p.c = (new, out))
    (hcycles : fetchedBytes op + modifyCycles m = cycles) :
    let ea := (resolve .modify m s).1.ea
    let old := ((resolve .modify m s).2.busRead ea).1
    Completes i op cycles s (((s.busWrite ea old).busWrite ea new).withCpu
      { s.cpu with p := (s.cpu.p.withNZ new).withC out }) [ea] := by
  obtain rfl : (f _ _).1 = new := congrArg Prod.fst hf
  obtain rfl : (f _ _).2 = out := congrArg Prod.snd hf
  exact completes_of_modify hop hexec (opModify_eq f m s) hcycles

/-- Settles O15: each operation gives the byte moved by one bit and the bit that leaves, on A and on memory. -/
theorem shiftsAndRotatesMoveOneBit : Obligations.ShiftsAndRotatesMoveOneBit := by
  intro s d w
  simp only [List.forall_mem_cons, List.not_mem_nil, false_imp_iff, implies_true, and_true]
  refine ⟨?asl, ?lsr, ?rol, ?ror, ⟨?aslZp, ?aslAbs, ?aslZpx, ?aslAbx⟩, ⟨?lsrZp, ?lsrAbs, ?lsrZpx, ?lsrAbx⟩,
    ⟨?rolZp, ?rolAbs, ?rolZpx, ?rolAbx⟩, ⟨?rorZp, ?rorAbs, ?rorZpx, ?rorAbx⟩⟩
  case asl | lsr => exact completes_of_opShiftA rfl rfl rfl rfl
  case rol => exact completes_of_opShiftA rfl rfl (rotateLeft_eq _ _) rfl
  case ror => exact completes_of_opShiftA rfl rfl (rotateRight_eq _ _) rfl
  case aslZp | aslAbs | aslZpx | aslAbx | lsrZp | lsrAbs | lsrZpx | lsrAbx =>
    exact completes_of_opModify rfl rfl rfl rfl
  case rolZp | rolAbs | rolZpx | rolAbx => exact completes_of_opModify rfl rfl (rotateLeft_eq _ _) rfl
  case rorZp | rorAbs | rorZpx | rorAbx => exact completes_of_opModify rfl rfl (rotateRight_eq _ _) rfl

end Sys2Proof.Machine

namespace Sys2Proof.Machine

/-! # Branches, jumps and subroutines (44_branch_jump.md R205 to R217) -/

/-! ## Reads and the registers -/

@[simp] theorem State.withCpu_cpu (c : Cpu) (s : State) : (s.withCpu c).cpu = c := rfl
@[simp] theorem State.withCpu_ram (c : Cpu) (s : State) : (s.withCpu c).ram = s.ram := rfl
@[simp] theorem State.withCpu_trace (c : Cpu) (s : State) : (s.withCpu c).trace = s.trace := rfl

theorem State.withCpu_withCpu (c c' : Cpu) (s : State) : (s.withCpu c).withCpu c' = s.withCpu c' := rfl

theorem State.setPc_eq_withCpu (w : Word) (s : State) : s.setPc w = s.withCpu { s.cpu with pc := w } := rfl

theorem State.countOsc3_withCpu (n : BitVec 5) (c : Cpu) (s : State) :
    (s.withCpu c).countOsc3 n = (s.countOsc3 n).withCpu c := by
  unfold State.countOsc3
  rw [show (s.withCpu c).sid = s.sid from rfl]
  split <;> rfl

theorem State.readCia1_withCpu (n : BitVec 4) (c : Cpu) (s : State) :
    (s.withCpu c).readCia1 n = ((s.readCia1 n).1, (s.readCia1 n).2.withCpu c) := by
  unfold State.readCia1 State.countJoystick
  rw [show (s.withCpu c).input = s.input from rfl]
  dsimp only
  split
  case h_1 | h_2 => split <;> rfl
  case h_3 => rfl

theorem State.ioRead_withCpu (a : Word) (c : Cpu) (s : State) :
    (s.withCpu c).ioRead a = ((s.ioRead a).1, (s.ioRead a).2.withCpu c) := by
  unfold State.ioRead
  rw [show (s.withCpu c).sid = s.sid from rfl, show (s.withCpu c).draws = s.draws from rfl]
  split
  case h_2 =>
    split
    · rw [State.countOsc3_withCpu]
    · rfl
  case h_4 => exact State.readCia1_withCpu _ c s
  all_goals rfl

/-- A bus read neither reads nor writes a register. -/
theorem State.busRead_withCpu (a : Word) (c : Cpu) (s : State) :
    (s.withCpu c).busRead a = ((s.busRead a).1, (s.busRead a).2.withCpu c) := by
  unfold State.busRead
  rw [show (s.withCpu c).store a = s.store a from rfl]
  split
  case h_7 => exact State.ioRead_withCpu a c s
  all_goals rfl

theorem dummyRead_withCpu (a : Word) (c : Cpu) (s : State) :
    dummyRead a (s.withCpu c) = (dummyRead a s).withCpu c := by
  rw [dummyRead, memRead, State.busRead_withCpu]
  rfl

theorem dummyPc_withCpu (c : Cpu) (s : State) : dummyPc (s.withCpu c) = (dummyRead c.pc s).withCpu c :=
  dummyRead_withCpu c.pc c s

/-! ## Instructions that only read before they write registers -/

/-- An instruction that reads at some addresses and then writes registers alone. -/
theorem completes_of_dummyReads {i : Instr} {op : Byte} {s t : State} {c : Cpu} {as : List Word} {cycles : Nat}
    (hop : (encode i).head? = some op) (hexec : exec i s = .next t)
    (hreads : t = (as.foldl (fun u a => dummyRead a u) s).withCpu c)
    (hcycles : fetchedBytes op + as.length = cycles) : Completes i op cycles s (s.withCpu c) [] := by
  refine completes_of_reads hop hexec hreads (foldl_dummyRead_steady as s) ?_ hcycles
  have htrace := congrArg List.length (foldl_dummyRead_trace as s)
  rwa [List.length_append, List.length_reverse, List.length_map, List.length_map] at htrace

/-- The accesses of such an instruction, latest first. -/
theorem trace_of_dummyReads {s t : State} {c : Cpu} {as : List Word}
    (hreads : t = (as.foldl (fun u a => dummyRead a u) s).withCpu c) :
    t.trace.map BusAccess.addr = as.reverse ++ s.trace.map BusAccess.addr := by
  rw [hreads]
  exact foldl_dummyRead_trace as s

/-! ## Branches (R205 to R213) -/

/-- The address with the old high byte is the target unless the branch leaves the page. -/
theorem wordOf_hiByte_loByte_eq_iff (pc t : Word) :
    wordOf (hiByte pc) (loByte t) = t ↔ branchCrosses pc t = false := by
  rw [branchCrosses, bne_eq_false_iff_eq]
  refine ⟨fun h => ?_, fun h => ?_⟩
  · rw [← h, hiByte_wordOf]
  · rw [h, wordOf_hiByte_loByte]

/-- The dummy reads of a branch (R205): one at the next instruction when it is taken, and one more, at the target
before its high byte is corrected, when that leaves the page. -/
def branchReads (taken : Bool) (d : Byte) (s : State) : List Word :=
  let t := s.cpu.pc + d.signExtend 16
  if taken then
    s.cpu.pc :: if branchCrosses s.cpu.pc t then [wordOf (hiByte s.cpu.pc) (loByte t)] else []
  else []

theorem branchReads_length (taken : Bool) (d : Byte) (s : State) :
    (branchReads taken d s).length = branchExtra taken d s := by
  cases taken with
  | false => rfl
  | true =>
    simp only [branchReads, branchExtra, if_true]
    split <;> rfl

theorem opBranch_eq (taken : Bool) (d : Byte) (s : State) : opBranch taken d s =
    ((branchReads taken d s).foldl (fun u a => dummyRead a u) s).withCpu
      { s.cpu with pc := if taken then s.cpu.pc + d.signExtend 16 else s.cpu.pc } := by
  cases taken with
  | false => rfl
  | true =>
    simp only [opBranch, branchReads, branchTarget, sext16, wordOf_hiByte_loByte_eq_iff, if_true,
      State.setPc_eq_withCpu]
    cases branchCrosses s.cpu.pc (s.cpu.pc + d.signExtend 16) with
    | false => simp only [if_true, dummyPc_cpu]; rfl
    | true => simp only [Bool.true_eq_false, if_false, if_true, dummyPc_cpu, dummyRead_cpu]; rfl

/-- A branch, by the condition it tests. -/
theorem completes_of_opBranch {i : Instr} {op d : Byte} {taken : Bool} {s : State}
    (hop : (encode i).head? = some op) (hexec : exec i s = .next (opBranch taken d s))
    (hlength : fetchedBytes op = 2) :
    Completes i op (2 + branchExtra taken d s) s
      (s.withCpu { s.cpu with pc := if taken then s.cpu.pc + d.signExtend 16 else s.cpu.pc }) [] ∧
    (taken = true → ∃ t, exec i s = .next t ∧
      t.trace.map BusAccess.addr =
        (if branchCrosses s.cpu.pc (s.cpu.pc + d.signExtend 16) then
          [wordOf (hiByte s.cpu.pc) (loByte (s.cpu.pc + d.signExtend 16))] else [])
        ++ s.cpu.pc :: s.trace.map BusAccess.addr) := by
  refine ⟨completes_of_dummyReads hop hexec (opBranch_eq taken d s) (by rw [hlength, branchReads_length]), ?_⟩
  rintro rfl
  refine ⟨_, hexec, ?_⟩
  rw [trace_of_dummyReads (opBranch_eq true d s), branchReads, if_pos rfl]
  split <;> rfl

/-- Settles O16: each of the eight is a branch on its own flag. -/
theorem branchesTestOneFlag : Obligations.BranchesTestOneFlag := by
  intro s d
  simp only [List.forall_mem_cons, List.not_mem_nil, false_imp_iff, implies_true, and_true]
  refine ⟨?bcc, ?bcs, ?beq, ?bmi, ?bne, ?bpl, ?bvc, ?bvs⟩
  all_goals exact completes_of_opBranch rfl rfl rfl

/-! ## Jumps (R214, R215) -/

/-- The high byte is read behind the low one, at the next address of the pointer's page (R215). -/
theorem opJmpInd_eq (w : Word) (s : State) :
    let p := wordOf (hiByte w) (loByte w + 1)
    opJmpInd w s = ([w, p].foldl (fun u a => dummyRead a u) s).withCpu
      { s.cpu with pc := wordOf ((s.busRead w).2.busRead p).1 (s.busRead w).1 } := by
  intro p
  have hhigh : ((memRead w s).2.busRead p).1 = ((s.busRead w).2.busRead p).1 := State.peek_log _ _ p
  simp only [opJmpInd, State.setPc_eq_withCpu, memRead_value, memRead_cpu]
  rw [hhigh]
  rfl

/-- Settles O17: an absolute jump makes no read, an indirect one reads the two bytes of its pointer. -/
theorem jumpsLoadThePc : Obligations.JumpsLoadThePc := fun s w =>
  ⟨completes_of_dummyReads (as := []) rfl rfl rfl rfl, completes_of_dummyReads rfl rfl (opJmpInd_eq w s) rfl⟩

/-! ## A word on the stack (10_state.md R22, 41_stack.md R160) -/

theorem byte_sub_one_sub_one (sp : Byte) : sp - 1 - 1 = sp - 2 := BitVec.sub_sub sp 1 1

theorem byte_add_one_add_one (sp : Byte) : sp + 1 + 1 = sp + 2 := BitVec.add_assoc sp 1 1

/-- The state with a word stored where it is pushed, high byte first; S as it is. -/
def State.storeStackWord (w : Word) (s : State) : State :=
  (s.writeRam (stackAddr s.cpu.s) (hiByte w)).writeRam (stackAddr (s.cpu.s - 1)) (loByte w)

/-- The word whose low byte is the next to be pulled. -/
def State.stackedWord (s : State) : Word :=
  wordOf (s.ram.read (stackAddr (s.cpu.s + 2)).toNat) (s.ram.read (stackAddr (s.cpu.s + 1)).toNat)

/-- Pushing a word stores its two bytes, then S has moved by two. -/
theorem pushWord_eq_withCpu (w : Word) (s : State) : pushWord w s =
    (((s.storeStackWord w).log (.write (stackAddr s.cpu.s) (hiByte w))).log
      (.write (stackAddr (s.cpu.s - 1)) (loByte w))).withCpu { s.cpu with s := s.cpu.s - 2 } := by
  rw [← byte_sub_one_sub_one, pushWord, push_eq, push_eq]
  rfl

theorem pushWord_trace (w : Word) (s : State) : (pushWord w s).trace =
    .write (stackAddr (s.cpu.s - 1)) (loByte w) :: .write (stackAddr s.cpu.s) (hiByte w) :: s.trace := by
  rw [pushWord_eq_withCpu]
  rfl

theorem pushWord_steady_congr {s t : State} (h : t.steady = s.steady) (w : Word) :
    (pushWord w t).steady = ((s.storeStackWord w).withCpu { s.cpu with s := s.cpu.s - 2 }).steady := by
  rw [pushWord_eq_withCpu]
  exact congrArg (fun u : State => (u.storeStackWord w).withCpu { u.cpu with s := u.cpu.s - 2 }) h

/-- What a read sees after a word is pushed. -/
theorem peek_pushWord (w : Word) (s : State) (a : Word) : (pushWord w s).peek a = (s.storeStackWord w).peek a := by
  rw [pushWord_eq_withCpu, State.peek, State.busRead_withCpu]
  exact (State.peek_log _ _ a).trans (State.peek_log _ _ a)

/-- The dummy read of the stack moves no byte that is read after the pushes. -/
theorem peek_storeStackWord_dummyStack (w : Word) (s : State) (a : Word) :
    ((dummyStack s).storeStackWord w).peek a = (s.storeStackWord w).peek a := by
  rw [dummyStack_eq]
  exact State.peek_log _ (s.storeStackWord w) a

/-- Pulling a word reads its two bytes, low byte first, then S has moved by two. -/
theorem pullWord_eq_withCpu (s : State) : pullWord s = (s.stackedWord,
    (dummyRead (stackAddr (s.cpu.s + 2)) (dummyRead (stackAddr (s.cpu.s + 1)) s)).withCpu
      { s.cpu with s := s.cpu.s + 2 }) := by
  rw [pullWord, State.stackedWord, ← byte_add_one_add_one, pull_eq_withCpu, pull_eq_withCpu, dummyRead_withCpu]
  simp only [State.withCpu, dummyRead_ram]

/-- Storing a word on the stack keeps every byte but its two. -/
theorem MemoryKeptBut.storeStackWord (w : Word) (s : State) :
    MemoryKeptBut [stackAddr s.cpu.s, stackAddr (s.cpu.s - 1)] s (s.storeStackWord w) :=
  (MemoryKeptBut.writeStack s.cpu.s (hiByte w) s).trans (.writeStack (s.cpu.s - 1) (loByte w) _) rfl

theorem stackAddr_toNat_injective {sp sp' : Byte} (h : (stackAddr sp).toNat = (stackAddr sp').toNat) : sp = sp' := by
  rw [stackAddr_toNat, stackAddr_toNat] at h
  exact BitVec.eq_of_toNat_eq (by omega)

/-- A word pushed is the word that is pulled. -/
theorem State.stackedWord_of_storeStackWord {w : Word} {s t : State} (hwf : Memory.wf s.ram = true)
    (hram : t.ram = (s.storeStackWord w).ram) (hs : t.cpu.s = s.cpu.s - 2) : t.stackedWord = w := by
  have htop : t.cpu.s + 2 = s.cpu.s := by rw [hs, BitVec.sub_add_cancel]
  have hnext : t.cpu.s + 1 = s.cpu.s - 1 := by rw [hs]; bv_omega
  have hne : (stackAddr s.cpu.s).toNat ≠ (stackAddr (s.cpu.s - 1)).toNat :=
    mt stackAddr_toNat_injective (by bv_omega)
  have hwf' : Memory.wf (s.writeRam (stackAddr s.cpu.s) (hiByte w)).ram = true := s.writeRam_wf _ _ hwf
  rw [State.stackedWord, htop, hnext, hram, State.storeStackWord, State.writeRam_ram,
    Memory.read_write_other _ _ _ _ hne, Memory.read_write_same _ _ _ hwf', State.writeRam_ram,
    Memory.read_write_same _ _ _ hwf, wordOf_hiByte_loByte]

/-! ## JSR (R216) -/

/-- The high byte of the target is read after the pushes, at the PC that was pushed. -/
theorem opJsr_eq (w : Word) (s : State) :
    opJsr w s = (dummyRead s.cpu.pc (pushWord s.cpu.pc (dummyStack s))).withCpu { s.cpu with
      pc := wordOf ((s.storeStackWord s.cpu.pc).busRead s.cpu.pc).1 (loByte w), s := s.cpu.s - 2 } := by
  have hcpu : (pushWord s.cpu.pc (dummyStack s)).cpu = { s.cpu with s := s.cpu.s - 2 } := by
    rw [pushWord_cpu, dummyStack_cpu, byte_sub_one_sub_one]
  have hhigh : ((pushWord s.cpu.pc (dummyStack s)).busRead s.cpu.pc).1 =
      ((s.storeStackWord s.cpu.pc).busRead s.cpu.pc).1 :=
    (peek_pushWord _ _ _).trans (peek_storeStackWord_dummyStack _ _ _)
  simp only [opJsr, State.setPc_eq_withCpu, memRead_value, memRead_cpu, hcpu, hhigh]
  rfl

theorem opJsr_steady (w : Word) (s : State) :
    let u := s.storeStackWord s.cpu.pc
    (opJsr w s).steady = (u.withCpu { s.cpu with
      pc := wordOf (u.busRead s.cpu.pc).1 (loByte w), s := s.cpu.s - 2 }).steady := by
  have hpushed := (dummyRead_steady s.cpu.pc _).trans (pushWord_steady_congr (dummyStack_steady s) s.cpu.pc)
  rw [opJsr_eq]
  exact congrArg (State.withCpu _) hpushed

theorem opJsr_trace (w : Word) (s : State) : (opJsr w s).trace.map BusAccess.addr =
    [s.cpu.pc, stackAddr (s.cpu.s - 1), stackAddr s.cpu.s, stackAddr s.cpu.s] ++ s.trace.map BusAccess.addr := by
  rw [opJsr_eq, State.withCpu_trace, dummyRead_trace, pushWord_trace, dummyStack_cpu, dummyStack_trace]
  rfl

/-- Settles O18: but for the side effects of its two reads, JSR is the two stores, then PC and S. -/
theorem jsrPushesThePcAndJumps : Obligations.JsrPushesThePcAndJumps := by
  intro s w
  have hkept := (MemoryKeptBut.storeStackWord s.cpu.pc s).trans (.of_steady_withCpu (opJsr_steady w s)) rfl
  refine ⟨⟨rfl, _, rfl, opJsr_steady w s, hkept, ?_⟩, _, rfl, opJsr_trace w s⟩
  have hlength := congrArg List.length (opJsr_trace w s)
  rw [List.length_map, List.length_append, List.length_map] at hlength
  rw [hlength, ← Nat.add_assoc]
  rfl

/-! ## RTS (R217) -/

/-- The five reads of R217: at the next instruction, at the old S, the two bytes of the word, and at the word. -/
theorem opRts_eq (s : State) : opRts s =
    ([s.cpu.pc, stackAddr s.cpu.s, stackAddr (s.cpu.s + 1), stackAddr (s.cpu.s + 2), s.stackedWord].foldl
      (fun u a => dummyRead a u) s).withCpu { s.cpu with pc := s.stackedWord + 1, s := s.cpu.s + 2 } := by
  have hword : (dummyStack (dummyPc s)).stackedWord = s.stackedWord := by
    simp only [State.stackedWord, dummyStack_cpu, dummyStack_ram, dummyPc_cpu, dummyPc_ram]
  simp only [opRts, pullWord_eq_withCpu, hword, dummyStack_cpu, dummyPc_cpu, State.setPc_eq_withCpu, State.withCpu_cpu,
    State.withCpu_withCpu, dummyPc_withCpu]
  rw [dummyStack, dummyPc_cpu]
  rfl

/-- Settles O19: the reads of RTS, then PC and S. -/
theorem rtsPullsThePcAndAddsOne : Obligations.RtsPullsThePcAndAddsOne := fun s =>
  ⟨completes_of_dummyReads rfl rfl (opRts_eq s) rfl, _, rfl, trace_of_dummyReads (opRts_eq s)⟩

/-! ## A call and its return -/

/-- Settles O20: the word RTS pulls is the PC that JSR pushed, and S is back where it was. -/
theorem rtsReturnsAfterJsr : Obligations.RtsReturnsAfterJsr := by
  intro s w pc hwf
  refine ⟨opJsr w s, opRts _, rfl, rfl, ?_⟩
  obtain ⟨-, -, hram, -, -⟩ := State.stores_of_steady (opJsr_steady w s)
  have hword : ((opJsr w s).withCpu { (opJsr w s).cpu with pc := pc }).stackedWord = s.cpu.pc :=
    State.stackedWord_of_storeStackWord hwf hram (congrArg (fun u : State => u.cpu.s) (opJsr_eq w s))
  rw [opRts_eq, hword]
  simp only [State.withCpu_cpu, opJsr_eq, BitVec.sub_add_cancel]

end Sys2Proof.Machine

namespace Sys2Proof.Machine

/-! # Flag instructions, BRK and RTI (45_flags_system.md R225 to R235) -/

/-! ## What the side effects of reads leave alone -/

theorem State.cpu_of_steady {s t : State} (h : t.steady = s.steady) : t.cpu = s.cpu :=
  show t.steady.cpu = s.steady.cpu by rw [h]

/-- What reads change does not move the map. -/
theorem State.store_of_steady {s t : State} (h : t.steady = s.steady) : t.store = s.store :=
  show t.steady.store = s.steady.store by rw [h]

/-! ## Flag instructions and NOP (R225 to R233) -/

theorem opFlag_eq (f : Flags → Flags) (s : State) :
    opFlag f s = (dummyPc s).withCpu { s.cpu with p := f s.cpu.p } := by
  rw [opFlag, State.setP_eq_withCpu, dummyPc_cpu]

/-- A flag instruction, by what it does to the flags. -/
theorem completes_of_opFlag (f : Flags → Flags) {i : Instr} {op : Byte} {s : State}
    (hop : (encode i).head? = some op) (hexec : exec i s = .next (opFlag f s)) (hlength : fetchedBytes op = 1) :
    Completes i op 2 s (s.withCpu { s.cpu with p := f s.cpu.p }) [] :=
  completes_of_dummyPc hop hexec (opFlag_eq f s) hlength

theorem opNop_eq (s : State) : opNop s = (dummyPc s).withCpu s.cpu := by
  rw [opNop, ← dummyPc_cpu s]
  rfl

/-- Settles O21: each makes its dummy read, then writes one flag; NOP leaves the registers as they are. -/
theorem flagInstructionsForceOneFlag : Obligations.FlagInstructionsForceOneFlag := fun s =>
  ⟨completes_of_opFlag (fun p => { p with c := false }) rfl rfl rfl,
    completes_of_opFlag (fun p => { p with c := true }) rfl rfl rfl,
    completes_of_opFlag (fun p => { p with i := false }) rfl rfl rfl,
    completes_of_opFlag (fun p => { p with i := true }) rfl rfl rfl,
    completes_of_opFlag (fun p => { p with d := false }) rfl rfl rfl,
    completes_of_opFlag (fun p => { p with d := true }) rfl rfl rfl,
    completes_of_opFlag (fun p => { p with v := false }) rfl rfl rfl,
    completes_of_dummyPc rfl rfl (opNop_eq s) rfl⟩

/-! ## Entering a handler (R234, 60_exceptions.md R306) -/

/-- The state with a return address and the status byte stored where an exception pushes them; S as it is. -/
def State.storeFrame (pc : Word) (brk : Bool) (s : State) : State :=
  (s.storeStackWord pc).writeRam (stackAddr (s.cpu.s - 2)) (pushedStatus s.cpu.p brk)

/-- The word at a vector, through the map. -/
def State.vectorWord (vector : Word) (s : State) : Word := wordOf (s.peek (vector + 1)) (s.peek vector)

/-- The three pushes of an exception. -/
def pushFrame (brk : Bool) (s : State) : State := push (s.cpu.p.toByte brk) (pushWord s.cpu.pc s)

theorem enterHandler_eq_pushFrame (vector : Word) (brk : Bool) (s : State) :
    enterHandler vector brk s = jumpThrough vector ((pushFrame brk s).setI true) := by
  rw [enterHandler, pushWord_cpu, pushFrame]

theorem pushFrame_steady_congr {s t : State} (h : t.steady = s.steady) (brk : Bool) :
    (pushFrame brk t).steady = ((s.storeFrame s.cpu.pc brk).withCpu { s.cpu with s := s.cpu.s - 3 }).steady := by
  rw [pushFrame, State.cpu_of_steady h, Flags.toByte_eq_pushedStatus,
    push_steady_congr (pushWord_steady_congr h s.cpu.pc), State.withCpu_cpu,
    show s.cpu.s - 2 - 1 = s.cpu.s - 3 from BitVec.sub_sub s.cpu.s 2 1]
  rfl

theorem pushFrame_trace (brk : Bool) (s : State) : (pushFrame brk s).trace.map BusAccess.addr =
    [stackAddr (s.cpu.s - 2), stackAddr (s.cpu.s - 1), stackAddr s.cpu.s] ++ s.trace.map BusAccess.addr := by
  rw [pushFrame, push_trace, pushWord_trace, pushWord_cpu, byte_sub_one_sub_one]
  rfl

theorem pushFrame_setI_store (brk i : Bool) (s : State) : ((pushFrame brk s).setI i).store = s.store :=
  (State.store_of_steady (pushFrame_steady_congr (rfl : s.steady = s.steady) brk)).trans rfl

/-- Storing the frame keeps every byte but its three. -/
theorem MemoryKeptBut.storeFrame (pc : Word) (brk : Bool) (s : State) :
    MemoryKeptBut [stackAddr s.cpu.s, stackAddr (s.cpu.s - 1), stackAddr (s.cpu.s - 2)] s (s.storeFrame pc brk) :=
  (MemoryKeptBut.storeStackWord pc s).trans (.writeStack (s.cpu.s - 2) (pushedStatus s.cpu.p brk) _) rfl

/-- A jump through a vector that no device answers reads its two bytes, low byte first. -/
theorem jumpThrough_eq {vector : Word} {s : State} (hlow : s.store vector ≠ .io) : jumpThrough vector s =
    ([vector, vector + 1].foldl (fun u a => dummyRead a u) s).withCpu
      { s.cpu with pc := s.vectorWord vector } := by
  have hhigh : ((memRead vector s).2.busRead (vector + 1)).1 = s.peek (vector + 1) := by
    rw [memRead, State.busRead_pure vector s hlow]
    exact State.peek_log _ s (vector + 1)
  simp only [jumpThrough, readWord, State.setPc_eq_withCpu, memRead_value, memRead_cpu, hhigh]
  rfl

theorem State.vectorWord_of_steady {s t : State} {c : Cpu} {vector : Word} (h : t.steady = (s.withCpu c).steady)
    (hlow : s.store vector ≠ .io) (hhigh : s.store (vector + 1) ≠ .io) :
    t.vectorWord vector = s.vectorWord vector := by
  have hpeek : ∀ a, s.store a ≠ .io → t.peek a = s.peek a := fun a hio =>
    (State.peek_of_steady (s := s.withCpu c) h hio).trans (State.peek_withCpu c hio)
  rw [State.vectorWord, State.vectorWord, hpeek _ hlow, hpeek _ hhigh]

/-- Entering a handler, after reads, through a vector that no device answers: the frame is stored, S drops by
three, I is set, and PC is the word at the vector after the pushes. -/
theorem enterHandler_steady {s t : State} {vector : Word} (h : t.steady = s.steady) (brk : Bool)
    (hlow : s.store vector ≠ .io) (hhigh : s.store (vector + 1) ≠ .io) :
    (enterHandler vector brk t).steady = ((s.storeFrame s.cpu.pc brk).withCpu { s.cpu with
      pc := (s.storeFrame s.cpu.pc brk).vectorWord vector
      s := s.cpu.s - 3
      p := { s.cpu.p with i := true } }).steady := by
  have hpushed : ((pushFrame brk t).setI true).steady = ((s.storeFrame s.cpu.pc brk).withCpu { s.cpu with
      s := s.cpu.s - 3, p := { s.cpu.p with i := true } }).steady :=
    congrArg (State.setI true) (pushFrame_steady_congr h brk)
  have hstore : ((pushFrame brk t).setI true).store = s.store :=
    (pushFrame_setI_store brk true t).trans (State.store_of_steady h)
  have hword := State.vectorWord_of_steady (s := s.storeFrame s.cpu.pc brk) hpushed hlow hhigh
  rw [enterHandler_eq_pushFrame, jumpThrough_eq (hstore ▸ hlow), hword, State.cpu_of_steady hpushed]
  exact congrArg (State.withCpu _) ((foldl_dummyRead_steady _ _).trans hpushed)

theorem enterHandler_trace {vector : Word} (brk : Bool) {s : State} (hlow : s.store vector ≠ .io) :
    (enterHandler vector brk s).trace.map BusAccess.addr =
      [vector + 1, vector, stackAddr (s.cpu.s - 2), stackAddr (s.cpu.s - 1), stackAddr s.cpu.s]
        ++ s.trace.map BusAccess.addr := by
  rw [enterHandler_eq_pushFrame, trace_of_dummyReads (jumpThrough_eq (pushFrame_setI_store brk true s ▸ hlow))]
  exact congrArg ([vector + 1, vector] ++ ·) (pushFrame_trace brk s)

/-! ## BRK (R234) -/

/-- Above the I/O region no device answers (20_memory.md R82). -/
theorem State.store_ne_io_of_kernal {a : Word} (h : 0xE000 ≤ a.toNat) (s : State) : s.store a ≠ .io := by
  rw [State.store, storeOf_kernal _ _ h]
  split <;> decide

theorem fetch8_steady (s : State) :
    (fetch8 s).2.steady = (s.withCpu { s.cpu with pc := s.cpu.pc + 1 }).steady := by
  rw [fetch8_eq]
  exact congrArg (State.setPc (s.cpu.pc + 1)) (dummyRead_steady s.cpu.pc s)

theorem fetch8_trace (s : State) :
    (fetch8 s).2.trace.map BusAccess.addr = s.cpu.pc :: s.trace.map BusAccess.addr := by
  rw [fetch8_eq]
  exact congrArg (List.map BusAccess.addr) (memRead_trace s.cpu.pc s)

/-- BRK is its padding byte, then the entry with the PC behind that byte and with B set. -/
theorem opBrk_steady (s : State) :
    let u := s.storeFrame (s.cpu.pc + 1) true
    (opBrk s).steady = (u.withCpu { s.cpu with
      pc := u.vectorWord irqVector, s := s.cpu.s - 3, p := { s.cpu.p with i := true } }).steady := by
  intro u
  have hlow : ∀ t : State, t.store irqVector ≠ .io := State.store_ne_io_of_kernal (by decide)
  have hhigh : ∀ t : State, t.store (irqVector + 1) ≠ .io := State.store_ne_io_of_kernal (by decide)
  have hword : (u.withCpu { s.cpu with pc := s.cpu.pc + 1 }).vectorWord irqVector = u.vectorWord irqVector :=
    State.vectorWord_of_steady rfl (hlow u) (hhigh u)
  rw [← hword]
  exact enterHandler_steady (fetch8_steady s) true (hlow _) (hhigh _)

theorem opBrk_trace (s : State) : (opBrk s).trace.map BusAccess.addr =
    [irqVector + 1, irqVector, stackAddr (s.cpu.s - 2), stackAddr (s.cpu.s - 1), stackAddr s.cpu.s, s.cpu.pc]
      ++ s.trace.map BusAccess.addr := by
  rw [opBrk, enterHandler_trace true (State.store_ne_io_of_kernal (by decide) _),
    State.cpu_of_steady (fetch8_steady s), fetch8_trace]
  rfl

/-- Settles O22: but for the side effects of its reads, BRK is the three stores, then PC, S and I. -/
theorem brkEntersTheIrqHandler : Obligations.BrkEntersTheIrqHandler := by
  intro s
  have hkept := (MemoryKeptBut.storeFrame (s.cpu.pc + 1) true s).trans (.of_steady_withCpu (opBrk_steady s)) rfl
  refine ⟨rfl, opBrk s, rfl, opBrk_steady s, hkept, ?_⟩
  have hlength := congrArg List.length (opBrk_trace s)
  rw [List.length_map, List.length_append, List.length_map] at hlength
  rw [hlength, ← Nat.add_assoc]
  rfl

/-! ## RTI (R235) -/

/-- RTI is PLP, then the word above the status byte goes to PC. -/
theorem opRti_eq_opPlp (s : State) : opRti s = (pullWord (opPlp s)).2.setPc (pullWord (opPlp s)).1 := rfl

/-- The five reads of R235: at the next instruction, at the old S, the status byte, and the two bytes of PC. -/
theorem opRti_eq (s : State) : opRti s =
    ([s.cpu.pc, stackAddr s.cpu.s, stackAddr (s.cpu.s + 1), stackAddr (s.cpu.s + 2), stackAddr (s.cpu.s + 3)].foldl
      (fun u a => dummyRead a u) s).withCpu { s.cpu with
        pc := wordOf (s.ram.read (stackAddr (s.cpu.s + 3)).toNat) (s.ram.read (stackAddr (s.cpu.s + 2)).toNat)
        s := s.cpu.s + 3
        p := flagsIn (s.ram.read (stackAddr (s.cpu.s + 1)).toNat) } := by
  have hlow : s.cpu.s + 1 + 1 = s.cpu.s + 2 := byte_add_one_add_one s.cpu.s
  have hhigh : s.cpu.s + 1 + 2 = s.cpu.s + 3 := BitVec.add_assoc s.cpu.s 1 2
  rw [opRti_eq_opPlp, opPlp_eq, pullWord_eq_withCpu, State.setPc_eq_withCpu]
  simp only [State.stackedWord, State.withCpu_cpu, State.withCpu_ram, dummyRead_withCpu, hlow, hhigh, pullReads,
    dummyRead_ram, dummyStack_ram, dummyPc_ram]
  rw [dummyStack, dummyPc_cpu]
  rfl

/-- Settles O23: RTI makes its five reads, then writes PC, S and the flags. -/
theorem rtiRestoresFlagsAndPc : Obligations.RtiRestoresFlagsAndPc := fun s =>
  completes_of_dummyReads rfl rfl (opRti_eq s) rfl

end Sys2Proof.Machine

namespace Sys2Proof.Machine

/-! # Undocumented combinations of documented operations (46_undocumented.md R240 to R254) -/

/-! ## Policy (R240) -/

theorem undocumented_of_quirk {s : State} (hq : s.params.illegalPolicy = .quirk) (form : NopForm) (op : Byte)
    (quirk : State → State) : undocumented form op quirk s = quirk s := by
  rw [undocumented, hq]

theorem undocumented_of_nop {s : State} (hn : s.params.illegalPolicy = .nop) (form : NopForm) (op : Byte)
    (quirk : State → State) : undocumented form op quirk s =
      diagnostic (s.cpu.pc - BitVec.ofNat 16 (NopForm.length form)) op (nopAccess form s) := by
  rw [undocumented, hn]

/-- Under `Quirk` an undocumented opcode does what its rule says. -/
theorem exec_of_quirk {i : Instr} {s : State} {form : NopForm} {op : Byte} {quirk : State → State}
    (hexec : exec i s = .next (undocumented form op quirk s)) (hq : s.params.illegalPolicy = .quirk) :
    exec i s = .next (quirk s) := by
  rw [hexec, undocumented_of_quirk hq]

/-! ## Modify, then combine with the accumulator (R241 to R244, R247, R248) -/

/-- An instruction that modifies its operand and then writes registers alone, by what its operation gives. -/
theorem completes_of_modify_value {i : Instr} {op new : Byte} {out : Bool} {m : MemMode} {f : ByteOp} {s t : State}
    {c : Cpu} {cycles : Nat} (hop : (encode i).head? = some op) (hexec : exec i s = .next t)
    (hwrites : t = (modify m f s).2.withCpu c)
    (hf : f ((resolve .modify m s).2.busRead (resolve .modify m s).1.ea).1 s.cpu.p.c = (new, out))
    (hcycles : fetchedBytes op + modifyCycles m = cycles) :
    let ea := (resolve .modify m s).1.ea
    let old := ((resolve .modify m s).2.busRead ea).1
    Completes i op cycles s (((s.busWrite ea old).busWrite ea new).withCpu c) [ea] := by
  obtain rfl : (f _ _).1 = new := congrArg Prod.fst hf
  exact completes_of_modify hop hexec hwrites hcycles

/-- The new value of a modify, and the registers after it, by what its operation gives. -/
theorem modify_value_cpu {m : MemMode} {f : ByteOp} {s : State} {new : Byte} {out : Bool}
    (hf : f ((resolve .modify m s).2.busRead (resolve .modify m s).1.ea).1 s.cpu.p.c = (new, out)) :
    (modify m f s).1 = new ∧ (modify m f s).2.cpu = { s.cpu with p := s.cpu.p.withC out } := by
  rw [modify, modifyAt_value, modifyAt_cpu, resolve_cpu, hf]
  exact ⟨rfl, rfl⟩

/-- SLO, RLA and SRE load the accumulator with its combination with the new byte; the carry is the bit moved out. -/
theorem completes_of_opModifyLogic {i : Instr} {op new : Byte} {out : Bool} {m : MemMode} {f : ByteOp}
    {g : Byte → Byte → Byte} {s : State} {cycles : Nat} (hop : (encode i).head? = some op)
    (hexec : exec i s = .next (opModifyLogic f g m s))
    (hf : f ((resolve .modify m s).2.busRead (resolve .modify m s).1.ea).1 s.cpu.p.c = (new, out))
    (hcycles : fetchedBytes op + modifyCycles m = cycles) :
    let ea := (resolve .modify m s).1.ea
    let old := ((resolve .modify m s).2.busRead ea).1
    let r := g s.cpu.a new
    Completes i op cycles s (((s.busWrite ea old).busWrite ea new).withCpu
      { s.cpu with a := r, p := (s.cpu.p.withNZ r).withC out }) [ea] := by
  obtain ⟨hvalue, hcpu⟩ := modify_value_cpu hf
  refine completes_of_modify_value hop hexec ?_ hf hcycles
  rw [opModifyLogic, State.loadA_eq_withCpu, hvalue, hcpu]
  rfl

/-- Settles O24: each operation gives the byte moved by one bit and the bit that leaves; the byte goes into A. -/
theorem sloRlaSreShiftMemoryIntoTheAccumulator : Obligations.SloRlaSreShiftMemoryIntoTheAccumulator := by
  intro s d w hq
  simp only [List.forall_mem_cons, List.not_mem_nil, false_imp_iff, implies_true, and_true]
  refine ⟨⟨?izx, ?zp, ?abs, ?izy, ?zpx, ?aby, ?abx⟩, ⟨?rizx, ?rzp, ?rabs, ?rizy, ?rzpx, ?raby, ?rabx⟩,
    ⟨?sizx, ?szp, ?sabs, ?sizy, ?szpx, ?saby, ?sabx⟩⟩
  case izx | zp | abs | izy | zpx | aby | abx =>
    exact completes_of_opModifyLogic (g := (· ||| ·)) rfl (exec_of_quirk rfl hq) (f := shiftLeft) rfl rfl
  case rizx | rzp | rabs | rizy | rzpx | raby | rabx =>
    exact completes_of_opModifyLogic (g := (· &&& ·)) rfl (exec_of_quirk rfl hq) (rotateLeft_eq _ _) rfl
  case sizx | szp | sabs | sizy | szpx | saby | sabx =>
    exact completes_of_opModifyLogic (g := (· ^^^ ·)) rfl (exec_of_quirk rfl hq) (f := shiftRight) rfl rfl

theorem opRra_eq (m : MemMode) (s : State) :
    let old := ((resolve .modify m s).2.busRead (resolve .modify m s).1.ea).1
    let new := old >>> 1 ||| BitVec.ofNat 8 (128 * s.cpu.p.c.toNat)
    let o := addWithCarry s.cpu.a new (old.getLsbD 0) s.cpu.p.d
    opRra m s = (modify m rotateRight s).2.withCpu { s.cpu with a := o.r, p := s.cpu.p.withAdder o } := by
  obtain ⟨hvalue, hcpu⟩ := modify_value_cpu (m := m) (s := s) (rotateRight_eq _ _)
  simp only [opRra, State.setAlu_eq_withCpu, hvalue, hcpu]
  rfl

theorem opDcp_eq (m : MemMode) (s : State) :
    let old := ((resolve .modify m s).2.busRead (resolve .modify m s).1.ea).1
    opDcp m s = (modify m decrement s).2.withCpu { s.cpu with p := s.cpu.p.withCompare s.cpu.a (old - 1) } := by
  obtain ⟨hvalue, hcpu⟩ := modify_value_cpu (m := m) (f := decrement) (s := s) rfl
  simp only [opDcp, State.setP_eq_withCpu, Flags.compare_eq_withCompare, hvalue, hcpu]
  rfl

theorem opIsc_eq (m : MemMode) (s : State) :
    let old := ((resolve .modify m s).2.busRead (resolve .modify m s).1.ea).1
    let o := subWithBorrow s.cpu.a (old + 1) s.cpu.p.c s.cpu.p.d
    opIsc m s = (modify m increment s).2.withCpu { s.cpu with a := o.r, p := s.cpu.p.withAdder o } := by
  obtain ⟨hvalue, hcpu⟩ := modify_value_cpu (m := m) (f := increment) (s := s) rfl
  simp only [opIsc, State.setAlu_eq_withCpu, hvalue, hcpu]
  rfl

/-- Settles O25: each modifies its operand; then the adder or the comparison takes the new byte. -/
theorem rraDcpIscModifyMemoryAndUseTheAdder : Obligations.RraDcpIscModifyMemoryAndUseTheAdder := by
  intro s d w hq
  simp only [List.forall_mem_cons, List.not_mem_nil, false_imp_iff, implies_true, and_true]
  refine ⟨⟨?izx, ?zp, ?abs, ?izy, ?zpx, ?aby, ?abx⟩, ⟨?dizx, ?dzp, ?dabs, ?dizy, ?dzpx, ?daby, ?dabx⟩,
    ⟨?iizx, ?izp, ?iabs, ?iizy, ?izpx, ?iaby, ?iabx⟩⟩
  case izx | zp | abs | izy | zpx | aby | abx =>
    exact completes_of_modify_value rfl (exec_of_quirk rfl hq) (opRra_eq _ s) (rotateRight_eq _ _) rfl
  case dizx | dzp | dabs | dizy | dzpx | daby | dabx =>
    exact completes_of_modify_value (f := decrement) rfl (exec_of_quirk rfl hq) (opDcp_eq _ s) rfl rfl
  case iizx | izp | iabs | iizy | izpx | iaby | iabx =>
    exact completes_of_modify_value (f := increment) rfl (exec_of_quirk rfl hq) (opIsc_eq _ s) rfl rfl

/-! ## Two registers at once (R245, R246, R254) -/

theorem State.setA_eq_withCpu (v : Byte) (s : State) : s.setA v = s.withCpu { s.cpu with a := v } := rfl

theorem State.setX_eq_withCpu (v : Byte) (s : State) : s.setX v = s.withCpu { s.cpu with x := v } := rfl

theorem State.setS_eq_withCpu (v : Byte) (s : State) : s.setS v = s.withCpu { s.cpu with s := v } := rfl

theorem opLax_eq (o : Src) (s : State) :
    let m := (readOperand o s).1
    opLax o s = (readOperand o s).2.withCpu { s.cpu with a := m, x := m, p := s.cpu.p.withNZ m } := by
  simp only [opLax, State.loadX_eq_withCpu, State.setA_eq_withCpu, readOperand_cpu]
  rfl

theorem opLas_eq (o : Src) (s : State) :
    let t := (readOperand o s).1 &&& s.cpu.s
    opLas o s = (readOperand o s).2.withCpu { s.cpu with a := t, x := t, s := t, p := s.cpu.p.withNZ t } := by
  simp only [opLas, State.loadX_eq_withCpu, State.setS_eq_withCpu, State.setA_eq_withCpu, readOperand_cpu]
  rfl

/-- Settles O26: SAX is a write of its operand; LAX and LAS are a read of theirs, then a load of the registers. -/
theorem saxLaxLasMoveTwoRegisters : Obligations.SaxLaxLasMoveTwoRegisters := by
  intro s d w hq
  simp only [List.forall_mem_cons, List.not_mem_nil, false_imp_iff, implies_true, and_true]
  refine ⟨⟨?sizx, ?szp, ?sabs, ?szpy⟩, ⟨?izx, ?zp, ?abs, ?izy, ?zpy, ?aby⟩, ?las⟩
  case sizx | szp | sabs | szpy => exact completes_of_writeOperand rfl (exec_of_quirk rfl hq) rfl
  case izx | zp | abs | zpy => exact completes_of_readOperand rfl (exec_of_quirk rfl hq) (opLax_eq _ s) rfl
  case izy | aby =>
    exact completes_of_readOperand rfl (exec_of_quirk rfl hq) (opLax_eq _ s) (fetched_add_crossed rfl)
  case las => exact completes_of_readOperand rfl (exec_of_quirk rfl hq) (opLas_eq _ s) (fetched_add_crossed rfl)

/-! ## Immediate combinations (R249 to R253) -/

theorem opAnc_eq (d : Byte) (s : State) :
    let r := s.cpu.a &&& d
    opAnc d s = s.withCpu { s.cpu with a := r, p := (s.cpu.p.withNZ r).withC (r.getLsbD 7) } := by
  rw [opAnc, State.setC_eq_withCpu, State.loadA_eq_withCpu, BitVec.msb_eq_getLsbD_last]
  rfl

theorem opAlr_eq (d : Byte) (s : State) :
    let t := s.cpu.a &&& d
    opAlr d s =
      s.withCpu { s.cpu with a := t >>> 1, p := (s.cpu.p.withNZ (t >>> 1)).withC (t.getLsbD 0) } := by
  rw [opAlr, State.loadA_eq_withCpu, State.setC_eq_withCpu]
  rfl

theorem opSbx_eq (d : Byte) (s : State) :
    let t := s.cpu.a &&& s.cpu.x
    opSbx d s = s.withCpu
      { s.cpu with x := t - d, p := (s.cpu.p.withNZ (t - d)).withC (decide (d.toNat ≤ t.toNat)) } := by
  rw [opSbx, State.setC_eq_withCpu, State.loadX_eq_withCpu]
  rfl

/-- ARR in binary mode (R251): N and Z of the byte rotated, C and V of its bits 6 and 5. -/
theorem arrBinary_eq (t : Byte) (c : Bool) :
    let r := t >>> 1 ||| BitVec.ofNat 8 (128 * c.toNat)
    arrBinary t c =
      { r, n := r.getLsbD 7, v := r.getLsbD 6 ^^ r.getLsbD 5, z := decide (r = 0), c := r.getLsbD 6 } := by
  rw [arrBinary, rotateRight_eq, BitVec.msb_eq_getLsbD_last, beq_eq_decide]

/-- Six added to the lower digit, with no carry out of it. -/
theorem ofDigits_add_six (r : Byte) : ofDigits (r.extractLsb' 4 4) (r.extractLsb' 0 4 + 6) =
    BitVec.ofNat 8 (16 * (r.toNat / 16) + (r.toNat % 16 + 6) % 16) := by
  have hr := r.isLt
  have hhi : (r.extractLsb' 4 4).toNat = r.toNat / 16 := hiDigit_eq r
  have hlo : (r.extractLsb' 0 4).toNat = r.toNat % 16 := loDigit_eq r
  apply BitVec.eq_of_toNat_eq
  rw [ofDigits_toNat, BitVec.toNat_add, hhi, hlo, BitVec.toNat_ofNat, show (6 : BitVec 4).toNat = 6 from rfl]
  omega

/-- ARR in decimal mode (R251): the digits of the AND, even ones from 6 and odd ones from 5 on, say which digits of
the byte rotated are corrected. -/
theorem arrDecimal_eq (t : Byte) (c : Bool) :
    let r := t >>> 1 ||| BitVec.ofNat 8 (128 * c.toNat)
    let low := t.toNat % 16
    let high := t.toNat / 16
    let r1 : Byte := if 5 < low + low % 2 then BitVec.ofNat 8 (16 * (r.toNat / 16) + (r.toNat % 16 + 6) % 16) else r
    arrDecimal t c =
      { r := if 5 < high + high % 2 then r1 + 0x60 else r1
        n := c
        v := t.getLsbD 6 ^^ r.getLsbD 6
        z := decide (r = 0)
        c := decide (5 < high + high % 2) } := by
  simp only [arrDecimal, rotateRight_eq, loDigit_eq, hiDigit_eq, ofDigits_add_six, beq_eq_decide, decide_eq_true_eq]

theorem opArr_eq (d : Byte) (s : State) :
    let t := s.cpu.a &&& d
    let o := if s.cpu.p.d then arrDecimal t s.cpu.p.c else arrBinary t s.cpu.p.c
    opArr d s = s.withCpu { s.cpu with a := o.r, p := s.cpu.p.withAdder o } := rfl

/-- An undocumented instruction that makes no access after its operand byte and writes registers alone. -/
theorem completes_of_registers {i : Instr} {op : Byte} {s t : State} {c : Cpu} (hop : (encode i).head? = some op)
    (hexec : exec i s = .next t) (hwrites : t = s.withCpu c) (hlength : fetchedBytes op = 2) :
    Completes i op 2 s (s.withCpu c) [] :=
  completes_of_dummyReads (as := []) hop hexec hwrites hlength

/-- Settles O27: each computes its registers from A, X, the operand and the flags; ARR by the mode D selects. -/
theorem ancAlrArrSbxAndTheSecondSbc : Obligations.AncAlrArrSbxAndTheSecondSbc := by
  intro s d hq
  simp only [List.forall_mem_cons, List.not_mem_nil, false_imp_iff, implies_true, and_true]
  refine ⟨⟨?anc0B, ?anc2B⟩, ?alr, ?arr, ?sbx, ?sbc⟩
  case anc0B | anc2B => exact completes_of_registers rfl (exec_of_quirk rfl hq) (opAnc_eq d s) rfl
  case alr => exact completes_of_registers rfl (exec_of_quirk rfl hq) (opAlr_eq d s) rfl
  case sbx => exact completes_of_registers rfl (exec_of_quirk rfl hq) (opSbx_eq d s) rfl
  case sbc => exact completes_of_registers rfl (exec_of_quirk rfl hq) (opSbc_eq (.imm d) s) rfl
  case arr =>
    refine completes_of_registers rfl (exec_of_quirk rfl hq) ?_ rfl
    rw [opArr_eq]
    by_cases hd : s.cpu.p.d = true
    · simp only [if_pos hd, arrDecimal_eq]
      rfl
    · simp only [if_neg hd, arrBinary_eq]
      rfl

end Sys2Proof.Machine

namespace Sys2Proof.Machine

/-! # Undocumented no-operations and JAM (46_undocumented.md R255, R262, R263) -/

/-! ## Results with the stores of the state before -/

/-- The port, RAM, colour RAM and the machine's parameters decide every byte that no device answers. -/
theorem MemoryKeptBut.of_same_stores {s t : State}
    (h : t.ddr = s.ddr ∧ t.pr = s.pr ∧ t.ram = s.ram ∧ t.colorRam = s.colorRam ∧ t.params = s.params) :
    MemoryKeptBut [] s t := by
  obtain ⟨hddr, hpr, hram, hcolor, hparams⟩ := h
  exact ⟨fun _ _ _ hio => State.peek_congr hddr hpr hram hparams hio, fun _ _ => by rw [hram],
    fun _ _ => by rw [hcolor]⟩

/-- An instruction that makes `n` accesses and, but for the side effects of its reads, gives a state with the same
stores. -/
theorem completes_of_same_stores {i : Instr} {op : Byte} {s t r : State} {n cycles : Nat}
    (hop : (encode i).head? = some op) (hexec : exec i s = .next t) (hsteady : t.steady = r.steady)
    (hstores : r.ddr = s.ddr ∧ r.pr = s.pr ∧ r.ram = s.ram ∧ r.colorRam = s.colorRam ∧ r.params = s.params)
    (htrace : t.trace.length = n + s.trace.length) (hcycles : fetchedBytes op + n = cycles) :
    Completes i op cycles s r [] := by
  have hkept : MemoryKeptBut [] s r := .of_same_stores hstores
  refine ⟨hop, t, hexec, hsteady, hkept.trans (.of_same_stores (State.stores_of_steady hsteady)) ?_, ?_⟩
  · obtain ⟨hddr, hpr, -⟩ := hstores
    funext a
    rw [State.store, State.store, State.bank, State.bank, hddr, hpr]
  · rw [htrace, ← hcycles, Nat.add_assoc]

/-! ## The accesses of a no-operation -/

/-- The addresses a no-operation reads after its operand bytes, in order (R255, R263). -/
def nopReads (form : NopForm) (s : State) : List Word :=
  match form with
  | .imp => [s.cpu.pc]
  | .imm => []
  | .mem m => addressCycles .read m s ++ [effectiveAddress m s]

/-- The cycles of a no-operation, its opcode and operand bytes included: those of a read in its mode (R263). -/
def nopCycles (form : NopForm) (s : State) : Nat :=
  match form with
  | .imp => 2
  | .imm => 2
  | .mem (.zp _) => 3
  | .mem (.zpx _) => 4
  | .mem (.zpy _) => 4
  | .mem (.abs _) => 4
  | .mem (.abx w) => 4 + crossExtra (.abx w) s
  | .mem (.aby w) => 4 + crossExtra (.aby w) s
  | .mem (.izx _) => 6
  | .mem (.izy d) => 5 + crossExtra (.izy d) s

theorem nopAccess_eq (form : NopForm) (s : State) :
    nopAccess form s = (nopReads form s).foldl (fun u a => dummyRead a u) s := by
  cases form with
  | imp | imm => rfl
  | mem m =>
    rw [nopReads, List.foldl_append, ← resolve_state, ← resolve_ea .read]
    rfl

@[simp] theorem nopAccess_steady (form : NopForm) (s : State) : (nopAccess form s).steady = s.steady := by
  rw [nopAccess_eq, foldl_dummyRead_steady]

theorem nopAccess_trace (form : NopForm) (s : State) :
    (nopAccess form s).trace.map BusAccess.addr = (nopReads form s).reverse ++ s.trace.map BusAccess.addr := by
  rw [nopAccess_eq, foldl_dummyRead_trace]

theorem nopAccess_trace_length (form : NopForm) (s : State) :
    (nopAccess form s).trace.length = (nopReads form s).length + s.trace.length := by
  have h := congrArg List.length (nopAccess_trace form s)
  rwa [List.length_append, List.length_reverse, List.length_map, List.length_map] at h

theorem nopReads_mem_length (m : MemMode) (s : State) : (nopReads (.mem m) s).length = readCycles (.mem m) s := by
  rw [nopReads, List.length_append, List.length_singleton, addressCycles_read_length]

theorem length_add_nopReads (form : NopForm) (s : State) :
    NopForm.length form + (nopReads form s).length = nopCycles form s := by
  cases form with
  | imp | imm => rfl
  | mem m =>
    rw [nopReads_mem_length]
    cases m with
    | zp | zpx | zpy | abs | izx => rfl
    | abx | aby | izy =>
      simp only [NopForm.length, MemMode.length, readCycles, nopCycles]
      omega

/-- The addresses of the reads as the statements list them, latest first. -/
theorem nopReads_reverse (form : NopForm) (s : State) : (nopReads form s).reverse =
    match form with
    | .imp => [s.cpu.pc]
    | .imm => []
    | .mem m => effectiveAddress m s :: (addressCycles .read m s).reverse := by
  cases form with
  | imp | imm => rfl
  | mem m => simp [nopReads]

/-! ## Every no-operation at once -/

/-- What a row of the statements about no-operations says of its instruction: its bytes, the cycles of its form, and
its meaning, which is `quirk` under `Quirk`. -/
structure NopRow (i : Instr) (form : NopForm) (op : Byte) (cycles : Nat) (quirk : State → State) (s : State) :
    Prop where
  opcode : (encode i).head? = some op
  length : (encode i).length = NopForm.length form
  fetched : fetchedBytes op = NopForm.length form
  formCycles : nopCycles form s = cycles
  runs : exec i s = .next (undocumented form op quirk s)

namespace NopRow

variable {i : Instr} {form : NopForm} {op : Byte} {cycles : Nat} {quirk : State → State} {s : State}

theorem fetched_add_reads (h : NopRow i form op cycles quirk s) :
    fetchedBytes op + (nopReads form s).length = cycles := by
  rw [h.fetched, length_add_nopReads, h.formCycles]

/-- Under `Quirk` an undocumented no-operation makes its reads and nothing else (R255). -/
theorem completes_of_quirk (h : NopRow i form op cycles (nopAccess form) s) (hq : s.params.illegalPolicy = .quirk) :
    Completes i op cycles s s [] ∧ ∃ t, exec i s = .next t ∧
      t.trace.map BusAccess.addr = (nopReads form s).reverse ++ s.trace.map BusAccess.addr := by
  have hexec : exec i s = .next (nopAccess form s) := exec_of_quirk h.runs hq
  exact ⟨completes_of_same_stores h.opcode hexec (nopAccess_steady form s) ⟨rfl, rfl, rfl, rfl, rfl⟩
      (nopAccess_trace_length form s) h.fetched_add_reads,
    _, hexec, nopAccess_trace form s⟩

/-- Under `Nop` every undocumented opcode makes the reads of its form and appends its diagnostic (R263). -/
theorem completes_of_nop (h : NopRow i form op cycles quirk s) (hn : s.params.illegalPolicy = .nop) :
    Completes i op cycles s
      { s with diag := s.diag ++ [{ kind := .illegalOpcode,
                                    pc := s.cpu.pc - BitVec.ofNat 16 (encode i).length, opcode := op }] } [] ∧
    ∃ t, exec i s = .next t ∧
      t.trace.map BusAccess.addr = (nopReads form s).reverse ++ s.trace.map BusAccess.addr := by
  have hexec := h.runs
  rw [undocumented_of_nop hn, ← h.length] at hexec
  have hsteady := congrArg (diagnostic (s.cpu.pc - BitVec.ofNat 16 (encode i).length) op) (nopAccess_steady form s)
  exact ⟨completes_of_same_stores h.opcode hexec hsteady ⟨rfl, rfl, rfl, rfl, rfl⟩
      (nopAccess_trace_length form s) h.fetched_add_reads,
    _, hexec, nopAccess_trace form s⟩

end NopRow

/-- Settles O28: each of the 27 is the accesses of its form. -/
theorem undocumentedNopsOnlyRead : Obligations.UndocumentedNopsOnlyRead := by
  intro s d w hq f hf
  have hrow : NopRow f.instr f.form f.opcode f.cycles (nopAccess f.form) s := by
    revert f
    simp only [List.forall_mem_cons, List.not_mem_nil, false_imp_iff, implies_true, and_true]
    and_intros
    all_goals exact ⟨rfl, rfl, rfl, rfl, rfl⟩
  have hresult := hrow.completes_of_quirk hq
  rw [nopReads_reverse] at hresult
  exact hresult

/-- Settles O32: each of the 105 is the accesses of its form and a diagnostic. -/
theorem nopPolicyExecutesUndocumentedBytesAsNoOperations :
    Obligations.NopPolicyExecutesUndocumentedBytesAsNoOperations := by
  intro s d w hn f hf
  obtain ⟨quirk, hrow⟩ : ∃ quirk, NopRow f.instr f.form f.opcode f.cycles quirk s := by
    revert f
    simp only [List.forall_mem_cons, List.not_mem_nil, false_imp_iff, implies_true, and_true]
    and_intros
    all_goals exact ⟨_, rfl, rfl, rfl, rfl, rfl⟩
  have hresult := hrow.completes_of_nop hn
  rw [nopReads_reverse] at hresult
  exact hresult

/-! ## JAM (R262) -/

theorem opJam_steady (op : Byte) (s : State) : (opJam op s).steady =
    State.steady { s.withCpu { s.cpu with jammed := true } with
      diag := s.diag ++ [{ kind := .illegalOpcode, pc := s.cpu.pc - 1, opcode := op }] } :=
  congrArg (fun u : State => diagnostic (s.cpu.pc - 1) op { u with cpu := { u.cpu with jammed := true } })
    (dummyPc_steady s)

theorem opJam_trace (op : Byte) (s : State) : (opJam op s).trace = (dummyPc s).trace := rfl

theorem completes_of_opJam {i : Instr} {op : Byte} {s : State} (hop : (encode i).head? = some op)
    (hexec : exec i s = .next (opJam op s)) (hlength : fetchedBytes op = 1) :
    Completes i op 2 s { s.withCpu { s.cpu with jammed := true } with
      diag := s.diag ++ [{ kind := .illegalOpcode, pc := s.cpu.pc - 1, opcode := op }] } [] := by
  refine completes_of_same_stores (n := 1) hop hexec (opJam_steady op s) ⟨rfl, rfl, rfl, rfl, rfl⟩ ?_ (by rw [hlength])
  rw [opJam_trace, dummyPc_trace, List.length_cons, Nat.add_comm]

/-- A jammed CPU looks at no latched or pending interrupt: its step is one read of `$FFFF`. -/
theorem cpuStep_of_jammed {s : State} (hj : s.cpu.jammed = true) :
    cpuStep s = .next (dummyRead 0xFFFF { s with trace := [] }) := by
  rw [cpuStep, if_pos hj, jammedStep]

/-- Settles O31: JAM makes its dummy read and halts; a step of the halted CPU is a read of `$FFFF`. -/
theorem jamHaltsTheCpu : Obligations.JamHaltsTheCpu := by
  intro s hq
  simp only [List.forall_mem_cons, List.not_mem_nil, false_imp_iff, implies_true, and_true]
  refine ⟨⟨?jam02, ?jam12, ?jam22, ?jam32, ?jam42, ?jam52, ?jam62, ?jam72, ?jam92, ?jamB2, ?jamD2, ?jamF2⟩, ?halted⟩
  case halted =>
    intro hj
    have hio : s.store 0xFFFF ≠ .io := State.store_ne_io_of_kernal (by decide) s
    have hpeek : State.peek { s with trace := [] } 0xFFFF = s.peek 0xFFFF :=
      State.peek_congr (s := s) (t := { s with trace := [] }) rfl rfl rfl rfl hio
    refine ⟨_, cpuStep_of_jammed hj, dummyRead_steady _ _, ?_⟩
    rw [dummyRead_trace, ← hpeek]
    rfl
  all_goals exact completes_of_opJam rfl (exec_of_quirk rfl hq) rfl

end Sys2Proof.Machine

namespace Sys2Proof.Machine

/-! # Unstable opcodes, for every draw (46_undocumented.md R256 to R261) -/

/-! ## ANE and LXA (R256, R257) -/

/-- Counting a draw is neither a register nor a byte of memory nor an access. -/
theorem completes_of_countUnstable {i : Instr} {op : Byte} {s t : State} {c : Cpu} (hop : (encode i).head? = some op)
    (hexec : exec i s = .next t) (hwrites : t = s.countUnstable.withCpu c) (hlength : fetchedBytes op = 2) :
    Completes i op 2 s (s.countUnstable.withCpu c) [] := by
  subst hwrites
  exact completes_of_same_stores hop hexec rfl ⟨rfl, rfl, rfl, rfl, rfl⟩ (Nat.zero_add _).symm hlength

theorem opAne_eq (d : Byte) (s : State) :
    let r := (s.cpu.a ||| Config.unstableConst s.draws.unstable) &&& s.cpu.x &&& d
    opAne d s = s.countUnstable.withCpu { s.cpu with a := r, p := s.cpu.p.withNZ r } := by
  rw [opAne, State.loadA_eq_withCpu]
  rfl

theorem opLxa_eq (d : Byte) (s : State) :
    let r := (s.cpu.a ||| Config.unstableConst s.draws.unstable) &&& d
    opLxa d s = s.countUnstable.withCpu { s.cpu with a := r, x := r, p := s.cpu.p.withNZ r } := by
  simp only [opLxa, State.loadA_eq_withCpu, State.setX_eq_withCpu]
  rfl

/-- Settles O29: both load the accumulator with a combination of the draw; `$00` and `$FF` mask every bit of it. -/
theorem aneAndLxaDependOnTheDraw : Obligations.AneAndLxaDependOnTheDraw := by
  intro s d hq k drawn ane lxa
  refine ⟨completes_of_countUnstable rfl (exec_of_quirk rfl hq) (opAne_eq d s) rfl,
    completes_of_countUnstable rfl (exec_of_quirk rfl hq) (opLxa_eq d s) rfl, ?_, ?_⟩
  · rintro rfl
    exact ⟨BitVec.and_zero, BitVec.and_zero⟩
  · intro ha
    have hdrawn : s.cpu.a ||| k = 0xFF := by
      rw [ha]
      exact BitVec.allOnes_or
    have hmask : ∀ b : Byte, 0xFF &&& b = b := fun _ => BitVec.allOnes_and
    constructor
    · rw [show ane = (s.cpu.a ||| k) &&& s.cpu.x &&& d from rfl, hdrawn, hmask]
    · rw [show lxa = (s.cpu.a ||| k) &&& d from rfl, hdrawn, hmask]

/-! ## The base address and the crossing of a store (30_encoding.md R113 to R116, R120) -/

theorem indexed_high (k : AccessKind) (base : Word) (index : Byte) (s : State) :
    (indexed k base index s).1.high = hiByte base := by
  unfold indexed
  dsimp only
  split <;> rfl

theorem indexed_crossed (k : AccessKind) (base : Word) (index : Byte) (s : State) :
    (indexed k base index s).1.crossed = decide (256 ≤ (loByte base).toNat + index.toNat) := by
  rw [← crosses_eq_decide, indexed]
  dsimp only
  split <;> rfl

theorem resolve_high (k : AccessKind) (m : MemMode) (s : State) :
    (resolve k m s).1.high = hiByte (baseAndIndex m s).1 := by
  cases m with
  | zp | zpx | zpy | abs => rfl
  | abx | aby => exact indexed_high k _ _ s
  | izx =>
    simp only [resolve, Ea.plain, readPointer_value, pointer_dummyRead_zeroPage]
    rfl
  | izy =>
    simp only [resolve, indexed_high, readPointer_value]
    rfl

/-- Without an index no page is crossed. -/
theorem no_carry_of_zero_index (w : Word) : decide (256 ≤ (loByte w).toNat + (0 : Byte).toNat) = false :=
  decide_eq_false (Nat.not_le.2 (loByte w).isLt)

theorem resolve_crossed (k : AccessKind) (m : MemMode) (s : State) :
    (resolve k m s).1.crossed = pageCrossed m s := by
  cases m with
  | zp | zpx | zpy | abs | izx => exact (no_carry_of_zero_index _).symm
  | abx | aby => exact indexed_crossed k _ _ s
  | izy =>
    simp only [resolve, indexed_crossed, readPointer_value, readPointer_cpu]
    rfl

/-! ## SHA, SHX, SHY and TAS (R258 to R261) -/

/-- The byte an unstable store writes: the registers' combination, and-ed with the high byte of the base plus one
when the draw says so. -/
def unstableByte (v : Byte) (m : MemMode) (s : State) : Byte :=
  if Config.unstableAndH s.draws.unstable then v &&& ((resolve .write m s).1.high + 1) else v

/-- Where it goes: a crossed page puts that byte in place of the high address byte. -/
def unstableAddress (v : Byte) (m : MemMode) (s : State) : Word :=
  let e := (resolve .write m s).1
  if Config.unstableAndH s.draws.unstable && pageCrossed m s then wordOf (unstableByte v m s) (loByte e.ea) else e.ea

theorem unstableStore_eq (v : Byte) (m : MemMode) (s : State) : unstableStore v m s =
    memWrite (unstableAddress v m s) (unstableByte v m s) (resolve .write m s).2.countUnstable := by
  rw [unstableAddress, ← resolve_crossed .write, Bool.and_comm]
  rfl

theorem unstableStore_steady (v : Byte) (m : MemMode) (s : State) : (unstableStore v m s).steady =
    (s.countUnstable.busWrite (unstableAddress v m s) (unstableByte v m s)).steady := by
  have hdrawn : (resolve .write m s).2.countUnstable.steady = s.countUnstable.steady :=
    congrArg State.countUnstable (resolve_steady .write m s)
  rw [unstableStore_eq, memWrite_steady_congr hdrawn]

theorem unstableStore_trace_length (v : Byte) (m : MemMode) (s : State) :
    (unstableStore v m s).trace.length = writeCycles m + s.trace.length := by
  have hresolve : (resolve .write m s).2.countUnstable.trace = (resolve .write m s).2.trace := rfl
  rw [unstableStore_eq, memWrite_trace, List.length_cons, hresolve, resolve_trace_length,
    ← addressCycles_write_length m s]
  omega

/-- An unstable store, by the registers it starts from. -/
theorem completes_of_unstableStore {i : Instr} {op v : Byte} {m : MemMode} {s : State} {c : Cpu} {cycles : Nat}
    (hop : (encode i).head? = some op) (hexec : exec i s = .next (unstableStore v m (s.withCpu c)))
    (hbyte : unstableByte v m (s.withCpu c) = unstableByte v m s)
    (haddress : unstableAddress v m (s.withCpu c) = unstableAddress v m s)
    (hcycles : fetchedBytes op + writeCycles m = cycles) :
    (resolve .write m s).1.high = hiByte (baseAndIndex m s).1 ∧
    Completes i op cycles s
      ((s.countUnstable.busWrite (unstableAddress v m s) (unstableByte v m s)).withCpu c) [unstableAddress v m s] := by
  have hresult := unstableStore_steady v m (s.withCpu c)
  rw [hbyte, haddress] at hresult
  have hdrawn : MemoryKeptBut [] s (s.withCpu c).countUnstable := .of_same_stores ⟨rfl, rfl, rfl, rfl, rfl⟩
  refine ⟨resolve_high .write m s, hop, _, hexec, ?_, hdrawn.trans (.of_steady_busWrite hresult) rfl, ?_⟩
  · rw [hresult, ← State.busWrite_withCpu]
    rfl
  · rw [unstableStore_trace_length, ← hcycles, Nat.add_assoc]
    rfl

/-- Settles O30: each is the store of its combination; TAS writes S before it, which no part of the store reads. -/
theorem unstableStoresDependOnTheDraw : Obligations.UnstableStoresDependOnTheDraw := by
  intro s d w hq
  simp only [List.forall_mem_cons, List.not_mem_nil, false_imp_iff, implies_true, and_true]
  refine ⟨⟨?shaIzy, ?shaAby⟩, ?shxAby, ?shyAbx, ?tasAby⟩
  case shaIzy | shaAby =>
    exact completes_of_unstableStore (c := s.cpu) rfl (exec_of_quirk (quirk := opSha _) rfl hq) rfl rfl rfl
  case shxAby =>
    exact completes_of_unstableStore (c := s.cpu) rfl (exec_of_quirk (quirk := opShx _) rfl hq) rfl rfl rfl
  case shyAbx =>
    exact completes_of_unstableStore (c := s.cpu) rfl (exec_of_quirk (quirk := opShy _) rfl hq) rfl rfl rfl
  case tasAby =>
    exact completes_of_unstableStore (c := { s.cpu with s := s.cpu.a &&& s.cpu.x }) rfl
      (exec_of_quirk (quirk := opTas _) rfl hq) rfl rfl rfl

end Sys2Proof.Machine

namespace Sys2Proof.Machine

/-! # Taking an interrupt and returning from it (60_exceptions.md R300 to R311) -/

/-! ## The interrupt sequence (R306) -/

/-- No device answers at a vector (20_memory.md R82, R83). -/
theorem Interrupt.store_vector_ne_io (k : Interrupt) (s : State) :
    s.store k.vector ≠ .io ∧ s.store (k.vector + 1) ≠ .io := by
  cases k <;> exact ⟨State.store_ne_io_of_kernal (by decide) s, State.store_ne_io_of_kernal (by decide) s⟩

/-- But for the side effects of its reads, the sequence stores the frame with B clear, then writes PC, S and I. -/
theorem raiseInterrupt_steady (k : Interrupt) (s : State) :
    let u := s.storeFrame s.cpu.pc false
    (raiseInterrupt k s).steady = (u.withCpu { s.cpu with
      pc := u.vectorWord k.vector, s := s.cpu.s - 3, p := { s.cpu.p with i := true } }).steady := by
  obtain ⟨hlow, hhigh⟩ := k.store_vector_ne_io s
  exact enterHandler_steady ((dummyPc_steady _).trans (dummyPc_steady s)) false hlow hhigh

theorem raiseInterrupt_trace (k : Interrupt) (s : State) : (raiseInterrupt k s).trace.map BusAccess.addr =
    [k.vector + 1, k.vector, stackAddr (s.cpu.s - 2), stackAddr (s.cpu.s - 1), stackAddr s.cpu.s, s.cpu.pc, s.cpu.pc]
      ++ s.trace.map BusAccess.addr := by
  have hlow := (k.store_vector_ne_io (dummyPc (dummyPc s))).1
  rw [raiseInterrupt, enterHandler_trace false hlow, dummyPc_cpu, dummyPc_cpu, dummyPc_trace, dummyPc_trace,
    dummyPc_cpu]
  rfl

/-- The state in which the sequence of a latched interrupt begins. -/
def State.interrupted (s : State) : State := { s.withCpu { s.cpu with intLatch := none } with trace := [] }

/-- A step with an interrupt latched fetches nothing (R300). -/
theorem cpuStep_of_intLatch {s : State} {k : Interrupt} (hj : s.cpu.jammed = false)
    (hl : s.cpu.intLatch = some k) : cpuStep s = .next (retire (raiseInterrupt k s.interrupted)) := by
  simp only [cpuStep, hj, hl]
  rfl

/-- Settles O43: the sequence of a state whose latch and list of accesses are cleared, which no frame shows. -/
theorem interruptSequenceEntersTheHandler : Obligations.InterruptSequenceEntersTheHandler := by
  intro s k hj hl p vec w
  have hvec : vec = k.vector := by cases k <;> rfl
  have hw : w = s.storeFrame s.cpu.pc false := rfl
  obtain ⟨hlow, hhigh⟩ := k.store_vector_ne_io w
  have hword : (s.interrupted.storeFrame s.cpu.pc false).vectorWord k.vector = w.vectorWord k.vector :=
    State.vectorWord_of_steady (s := w) (c := s.interrupted.cpu) rfl hlow hhigh
  have hsteady : (raiseInterrupt k s.interrupted).steady = (w.withCpu { s.cpu with
      pc := w.vectorWord k.vector, s := s.cpu.s - 3, p := { s.cpu.p with i := true }, intLatch := none }).steady := by
    rw [raiseInterrupt_steady, ← hword]
    rfl
  have hkept := (MemoryKeptBut.storeFrame s.cpu.pc false s).trans (.of_steady_withCpu (hw ▸ hsteady)) rfl
  rw [hvec]
  exact ⟨_, cpuStep_of_intLatch hj hl, hsteady, hkept, raiseInterrupt_trace k s.interrupted⟩

/-! ## Its return (R308; 45_flags_system.md R235) -/

/-- The status byte pushed gives the flags back; bits 5 and 4 are no flags (10_state.md R27). -/
theorem flagsIn_pushedStatus (p : Flags) (brk : Bool) : flagsIn (pushedStatus p brk) = p := by
  rw [← Flags.toByte_eq_pushedStatus]
  simp only [flagsIn, Flags.toByte, BitVec.getLsbD_append, BitVec.getLsbD_ofBool]
  simp

/-- The frame that is stored is the frame that is pulled. -/
theorem State.frame_of_storeFrame {s : State} (pc : Word) (brk : Bool) (hwf : Memory.wf s.ram = true) :
    let m := (s.storeFrame pc brk).ram
    m.read (stackAddr (s.cpu.s - 2)).toNat = pushedStatus s.cpu.p brk ∧
    wordOf (m.read (stackAddr s.cpu.s).toNat) (m.read (stackAddr (s.cpu.s - 1)).toNat) = pc := by
  intro m
  have hm : m = (s.storeStackWord pc).ram.write (stackAddr (s.cpu.s - 2)).toNat (pushedStatus s.cpu.p brk) := rfl
  have hword := State.stackedWord_of_storeStackWord (t := (s.storeStackWord pc).withCpu { s.cpu with s := s.cpu.s - 2 })
    hwf rfl rfl
  rw [State.stackedWord, State.withCpu_cpu, State.withCpu_ram, BitVec.sub_add_cancel,
    show s.cpu.s - 2 + 1 = s.cpu.s - 1 by bv_omega] at hword
  have hwf' : Memory.wf (s.storeStackWord pc).ram = true := State.writeRam_wf _ _ _ (s.writeRam_wf _ _ hwf)
  have htop : (stackAddr s.cpu.s).toNat ≠ (stackAddr (s.cpu.s - 2)).toNat := mt stackAddr_toNat_injective (by bv_omega)
  have hnext : (stackAddr (s.cpu.s - 1)).toNat ≠ (stackAddr (s.cpu.s - 2)).toNat :=
    mt stackAddr_toNat_injective (by bv_omega)
  refine ⟨Memory.read_write_same _ _ _ hwf', ?_⟩
  rw [hm, Memory.read_write_other _ _ _ _ htop, Memory.read_write_other _ _ _ _ hnext, hword]

/-- Settles O44: RTI pulls the frame the sequence stored, and S is back where it was. -/
theorem rtiUndoesTheInterruptSequence : Obligations.RtiUndoesTheInterruptSequence := by
  intro s k pc hwf u
  have hsteady := raiseInterrupt_steady k s
  have hcpu : u.cpu = _ := State.cpu_of_steady hsteady
  have hram : u.ram = (s.storeFrame s.cpu.pc false).ram := (State.stores_of_steady hsteady).2.2.1
  obtain ⟨hstatus, hword⟩ := State.frame_of_storeFrame s.cpu.pc false hwf
  have hfirst : s.cpu.s - 3 + 1 = s.cpu.s - 2 := by bv_omega
  have hsecond : s.cpu.s - 3 + 2 = s.cpu.s - 1 := by bv_omega
  refine ⟨_, rfl, ?_⟩
  rw [opRti_eq]
  simp only [State.withCpu_cpu, State.withCpu_ram, hcpu, hram, BitVec.sub_add_cancel, hfirst, hsecond, hstatus, hword,
    flagsIn_pushedStatus]

end Sys2Proof.Machine

namespace Sys2Proof.Machine

/-! # The I/O timer chips: timers, interrupt control, time of day (60_exceptions.md R350 to R358) -/

/-! ## A timer that counts (R353) -/

theorem Timer.tick_of_not_counting {t : Timer} {count : Bool} (h : (t.running && count) = false) :
    t.tick count = { t with underflowed := false } := by
  rw [Timer.tick, h]
  rfl

theorem Timer.tick_of_counter_ne_zero {t : Timer} (hrun : t.running = true) (h : t.counter ≠ 0) :
    t.tick true = { t with counter := t.counter - 1, underflowed := false } := by
  simp only [Timer.tick, hrun, Bool.and_self, if_true, h, if_false]

theorem Timer.tick_of_counter_eq_zero {t : Timer} (hrun : t.running = true) (h : t.counter = 0) :
    t.tick true = { t with
      counter := t.latch
      ctrl := if t.ctrl.getLsbD 3 then t.ctrl &&& 0xFE else t.ctrl
      underflowed := true
      toggle := if t.ctrl.getLsbD 2 then !t.toggle else t.toggle } := by
  simp only [Timer.tick, hrun, Bool.and_self, h, if_true]

/-- An underflow stops the timer in one-shot mode. -/
theorem Timer.running_of_underflow {t : Timer} (hrun : t.running = true) :
    (if t.ctrl.getLsbD 3 then t.ctrl &&& 0xFE else t.ctrl).getLsbD 0 = !t.ctrl.getLsbD 3 := by
  split
  case isTrue h => rw [BitVec.getLsbD_and, h]; exact Bool.and_false _
  case isFalse h => rw [Bool.not_eq_true] at h; rw [h]; exact hrun

/-- Until it reaches 0 a timer falls by one a tick. -/
theorem Timer.repeat_tick {t : Timer} (hrun : t.running = true) {k : Nat} (hk : k ≤ t.counter.toNat) :
    Nat.repeat (Timer.tick true) k t =
      { t with counter := t.counter - BitVec.ofNat 16 k, underflowed := decide (k = 0) && t.underflowed } := by
  induction k with
  | zero => simp [Nat.repeat]
  | succ k ih =>
    have hlt : t.counter.toNat < 2 ^ 16 := t.counter.isLt
    have hne : t.counter - BitVec.ofNat 16 k ≠ 0 := by bv_omega
    have hnext : t.counter - BitVec.ofNat 16 k - 1 = t.counter - BitVec.ofNat 16 (k + 1) := by
      rw [BitVec.sub_sub, BitVec.ofNat_add]
      rfl
    rw [Nat.repeat, ih (by omega), ← hnext]
    exact Timer.tick_of_counter_ne_zero (t := { t with counter := _, underflowed := _ }) hrun hne

/-- Settles O51: N ticks bring the counter to 0, the next one is the underflow. -/
theorem timersUnderflowEveryNPlusOneTicks : Obligations.TimersUnderflowEveryNPlusOneTicks := by
  intro t hrun N
  have hlt : t.counter.toNat < 2 ^ 16 := t.counter.isLt
  refine ⟨fun k hk => ?falling, ?underflow, fun u hu => ?stopped, ?idle⟩
  case falling =>
    rw [Timer.repeat_tick hrun hk]
    refine ⟨?_, fun hpos => ?_, hrun⟩
    · change (t.counter - BitVec.ofNat 16 k).toNat = t.counter.toNat - k
      bv_omega
    · simp [hpos.ne']
  case underflow =>
    have hzero : t.counter - BitVec.ofNat 16 N = 0 := by simp [N]
    have hN := Timer.repeat_tick hrun (le_refl N)
    rw [Nat.repeat, hN, hzero, Timer.tick_of_counter_eq_zero
      (t := { t with counter := 0, underflowed := decide (N = 0) && t.underflowed }) hrun rfl]
    exact ⟨rfl, rfl, rfl, Timer.running_of_underflow hrun⟩
  case stopped =>
    rw [Timer.tick_of_not_counting (by rw [hu]; rfl)]
    exact ⟨rfl, rfl⟩
  case idle =>
    rw [Timer.tick_of_not_counting (Bool.and_false _)]
    exact ⟨rfl, rfl⟩

/-! ## The interrupt control register (R355, R356) -/

theorem Cia.updateIr_eq_or (c : Cia) :
    c.updateIr = { c with ir := c.ir || decide (c.icrData &&& c.icrMask ≠ 0) } := by
  unfold Cia.updateIr
  split
  case isTrue h => rw [decide_eq_true (bne_iff_ne.1 h), Bool.or_true]
  case isFalse h => rw [decide_eq_false (mt bne_iff_ne.2 h), Bool.or_false]

theorem Cia.flag_eq_or (bits : BitVec 5) (c : Cia) : c.flag bits =
    { c with icrData := c.icrData ||| bits, ir := c.ir || decide ((c.icrData ||| bits) &&& c.icrMask ≠ 0) } :=
  Cia.updateIr_eq_or { c with icrData := c.icrData ||| bits }

theorem Cia.write_icr (v : Byte) (c : Cia) :
    let mask := if v.getLsbD 7 then c.icrMask ||| v.extractLsb' 0 5 else c.icrMask &&& ~~~(v.extractLsb' 0 5)
    c.write 0xD v = { c with icrMask := mask, ir := c.ir || decide (c.icrData &&& mask ≠ 0) } :=
  Cia.updateIr_eq_or _

theorem Cia.readIcr_toNat (c : Cia) : c.readIcr.1.toNat = 128 * c.ir.toNat + c.icrData.toNat := by
  rw [Cia.readIcr, toNat_append_eq, toNat_append_eq, BitVec.toNat_ofBool, show (0b00#2).toNat = 0 from rfl]
  omega

/-- Settles O50: a write, an event and a read of the register, each by its equation. -/
theorem interruptControlRegister : Obligations.InterruptControlRegister := by
  intro c v bits
  rw [Cia.write_icr]
  exact ⟨⟨rfl, rfl, rfl⟩, c.flag_eq_or bits, fun extA extB => ⟨c.readIcr_toNat, rfl⟩⟩

/-! ## The time of day (R358) -/

/-- An input tick moves the clock, if it is not stopped, and its count of input ticks. -/
theorem Tod.inputTick_eq (todin : Bool) (t : Tod) : ∃ clock ticks,
    t.inputTick todin = { t with clock := clock, ticks := ticks } ∧ (t.stopped = true → clock = t.clock) := by
  rw [Tod.inputTick]
  by_cases hstop : t.stopped = true
  · exact ⟨_, _, if_pos hstop, fun _ => rfl⟩
  rw [if_neg hstop]
  by_cases hlast : (if todin then 5 else 6) ≤ t.ticks + 1
  · exact ⟨_, _, if_pos hlast, fun h => absurd h hstop⟩
  · exact ⟨_, _, if_neg hlast, fun _ => rfl⟩

/-- A machine cycle moves the clock, if it is not stopped, and the phase of its input. -/
theorem Tod.tick_eq (std : VideoStandard) (todin : Bool) (t : Tod) : ∃ clock phase ticks,
    t.tick std todin = { t with clock := clock, phase := phase, ticks := ticks } ∧
      (t.stopped = true → clock = t.clock) := by
  unfold Tod.tick
  dsimp only
  split
  · obtain ⟨clock, ticks, h, hstop⟩ := Tod.inputTick_eq todin { t with phase := t.phase + std.mainsHz - std.clockHz }
    exact ⟨clock, _, ticks, h, hstop⟩
  · exact ⟨_, _, _, rfl, fun _ => rfl⟩

/-- So does any number of cycles: what is frozen stays frozen, and a stopped clock stands. -/
theorem Tod.repeat_tick_eq (std : VideoStandard) (todin : Bool) (k : Nat) (t : Tod) : ∃ clock phase ticks,
    Nat.repeat (Tod.tick std todin) k t = { t with clock := clock, phase := phase, ticks := ticks } ∧
      (t.stopped = true → clock = t.clock) := by
  induction k with
  | zero => exact ⟨_, _, _, rfl, fun _ => rfl⟩
  | succ k ih =>
    obtain ⟨clock, phase, ticks, h, hstop⟩ := ih
    obtain ⟨clock', phase', ticks', h', hstop'⟩ :=
      Tod.tick_eq std todin { t with clock := clock, phase := phase, ticks := ticks }
    exact ⟨clock', phase', ticks', by rw [Nat.repeat, h, h'], fun hs => (hstop' hs).trans (hstop hs)⟩

/-- A read of the hours of a clock that is not frozen. -/
theorem Tod.read_hours {t : Tod} (h : t.latched = false) :
    t.read 3 = (t.clock.hours, { t with latched := true, latch := t.clock }) := by
  simp only [Tod.read, h, Bool.false_eq_true, if_false]

/-- Settles O57: no cycle touches what is frozen, nor the clock of a stopped one. -/
theorem timeOfDayFreezesAndStops : Obligations.TimeOfDayFreezesAndStops := by
  intro t v std todin
  refine ⟨fun h => ?frozen, fun k => ?stopped, rfl, rfl⟩
  case frozen =>
    rw [Tod.read_hours h]
    refine ⟨rfl, fun k => ?_⟩
    obtain ⟨_, _, _, e, -⟩ := Tod.repeat_tick_eq std todin k { t with latched := true, latch := t.clock }
    rw [e]
    exact ⟨rfl, rfl, rfl, rfl⟩
  case stopped =>
    obtain ⟨_, _, _, e, hstop⟩ := Tod.repeat_tick_eq std todin k (t.writeClock 3 v)
    rw [e, hstop rfl]

end Sys2Proof.Machine

namespace Sys2Proof.Machine

/-! # The raster position and the stolen cycles (60_exceptions.md R330 to R347) -/

/-! ## The position in the frame (R333, R347) -/

/-- A tick moves the position by one, or from the end of the frame back to its beginning with an event. -/
theorem Vic.position_tick {std : VideoStandard} {v : Vic} (h : v.InFrame std) :
    (v.tick std).1.position std + std.lines * std.cyclesPerLine * (if (v.tick std).2 then 1 else 0) =
      v.position std + 1 := by
  obtain ⟨hcycle, hraster, hevent, -⟩ := v.tick_registers std
  obtain ⟨hlines, hone, hlast⟩ := h
  have hsmall : std.lines < 512 := lines_lt_512 std
  rw [Vic.position, hcycle, hraster, hevent, Vic.position]
  by_cases hline : std.cyclesPerLine < v.rcycle + 1
  case neg =>
    have hnoline : v.newLine std = false := decide_eq_false hline
    have hnoframe : v.newFrame std = false := by rw [Vic.newFrame, hnoline, Bool.false_and]
    rw [hnoline, hnoframe]
    simp only [Bool.false_eq_true, if_false]
    omega
  have hnewline : v.newLine std = true := decide_eq_true hline
  have hcycles : v.rcycle = std.cyclesPerLine := by omega
  by_cases hframe : v.raster + 1 = BitVec.ofNat 9 std.lines
  case pos =>
    have hnewframe : v.newFrame std = true := by rw [Vic.newFrame, hnewline, decide_eq_true hframe]; rfl
    have hend : std.lines = v.raster.toNat + 1 := by bv_omega
    rw [hnewline, hnewframe, hend, ← hcycles, Nat.add_mul]
    simp only [if_true, Nat.mul_one, Nat.one_mul, show (0 : BitVec 9).toNat = 0 from rfl, Nat.zero_mul]
    omega
  case neg =>
    have hnoframe : v.newFrame std = false := by rw [Vic.newFrame, decide_eq_false hframe, Bool.and_false]
    have hnext : (v.raster + 1).toNat = v.raster.toNat + 1 := by bv_omega
    rw [hnewline, hnoframe, ← hcycles]
    simp only [Bool.false_eq_true, if_false, if_true, hnext, Nat.add_mul]
    omega

theorem Vic.position_lt {std : VideoStandard} {v : Vic} (h : v.InFrame std) :
    v.position std < std.lines * std.cyclesPerLine := by
  obtain ⟨hlines, hone, hlast⟩ := h
  calc v.position std < v.raster.toNat * std.cyclesPerLine + std.cyclesPerLine := by rw [Vic.position]; omega
    _ = (v.raster.toNat + 1) * std.cyclesPerLine := (Nat.succ_mul _ _).symm
    _ ≤ std.lines * std.cyclesPerLine := Nat.mul_le_mul_right _ hlines

/-- Each event of a run stands for one frame of the distance travelled. -/
theorem Vic.position_run {std : VideoStandard} (n : Nat) {v : Vic} (h : v.InFrame std) :
    (Vic.run std n v).1.InFrame std ∧
    (Vic.run std n v).1.position std + std.lines * std.cyclesPerLine * (Vic.run std n v).2 = v.position std + n := by
  induction n generalizing v with
  | zero => exact ⟨h, rfl⟩
  | succ n ih =>
    obtain ⟨hframe, hrest⟩ := ih h.tick
    have hfirst := Vic.position_tick h
    refine ⟨hframe, ?_⟩
    rw [Vic.run, Nat.mul_add]
    dsimp only
    omega

/-- Settles O52: the events are the quotient and the position the remainder of the distance by the frame. -/
theorem rasterWrapsOncePerFrame : Obligations.RasterWrapsOncePerFrame := by
  intro std v n hlines hone hlast frame r
  have h : v.InFrame std := ⟨hlines, hone, hlast⟩
  obtain ⟨hin, hdistance⟩ := Vic.position_run n h
  have hlt := Vic.position_lt hin
  obtain ⟨hdiv, hmod⟩ := (Nat.div_mod_unique (Nat.zero_lt_of_lt hlt)).2 ⟨hdistance, hlt⟩
  exact ⟨hmod.symm, hdiv.symm, hin.raster, hin.cycleOne, hin.cycleLast⟩

/-! ## One turn of the scheduler's inner loop (R330, R331) -/

theorem tickVic_eq (s : State) : ∃ c, tickVic s =
    { s with vic := (s.vic.tick s.params.videoStandard).1, session := c } := by
  unfold tickVic
  dsimp only
  split <;> exact ⟨_, rfl⟩

theorem tickSid_eq (s : State) : ∃ d c, tickSid s = { s with sid := d, session := c } := by
  unfold tickSid
  dsimp only
  split <;> exact ⟨_, _, rfl⟩

/-- A tick of the machine is one of the video chip and one cycle; it changes no parameter. -/
theorem tickCycle_frame (s : State) :
    (tickCycle s).vic = (s.vic.tick s.params.videoStandard).1 ∧ (tickCycle s).params = s.params ∧
      (tickCycle s).cycle = s.cycle + 1 := by
  obtain ⟨_, hvic⟩ := tickVic_eq s
  obtain ⟨_, _, hsid⟩ := tickSid_eq (tickCias (tickVic s))
  rw [tickCycle, chipsetTick, hsid, hvic]
  exact ⟨rfl, rfl, rfl⟩

/-! ## The stolen cycles of a PAL line (R340, R341) -/

/-- From cycle `c` of a PAL line, the cycles up to the next one that is never stolen: a badline takes 15 to 54, the
sprites take 58 to 63 and 1 to 10. -/
def palStealRun (c : Nat) : Nat :=
  if 1 ≤ c ∧ c ≤ 10 then 11 - c else if 15 ≤ c ∧ c ≤ 54 then 55 - c else if 58 ≤ c ∧ c ≤ 63 then 74 - c else 0

theorem palStealRun_le (c : Nat) : palStealRun c ≤ 40 := by
  unfold palStealRun
  split_ifs <;> omega

/-- A stolen cycle lies in one of the two runs. -/
theorem Vic.palStealRun_pos {v : Vic} (h : v.steal .pal = true) : 0 < palStealRun v.rcycle := by
  have hcycle : (15 ≤ v.rcycle ∧ v.rcycle ≤ 54) ∨ (58 ≤ v.rcycle ∧ v.rcycle ≤ 63) ∨ (1 ≤ v.rcycle ∧ v.rcycle ≤ 10) := by
    rw [Vic.steal, Bool.or_eq_true] at h
    obtain hbad | hsprite := h
    · simp only [Vic.stealBadline, Bool.and_eq_true, decide_eq_true_eq] at hbad
      exact .inl ⟨hbad.1.2, hbad.2⟩
    · simp only [Vic.stealSpritePal] at hsprite
      split_ifs at hsprite with hlow hhigh
      · exact .inr (.inl hlow)
      · exact .inr (.inr hhigh)
  unfold palStealRun
  split_ifs <;> omega

theorem State.palStealRun_pos {s : State} (hpal : s.params.videoStandard = .pal) (h : s.steal = true) :
    0 < palStealRun s.vic.rcycle := by
  rw [State.steal, hpal] at h
  exact Vic.palStealRun_pos h

/-- The next cycle is one nearer to the end of its run. -/
theorem Vic.palStealRun_tick {v : Vic} (h : 0 < palStealRun v.rcycle) :
    palStealRun (v.tick .pal).1.rcycle < palStealRun v.rcycle := by
  obtain ⟨hcycle, -⟩ := v.tick_registers .pal
  rw [hcycle, show v.newLine .pal = decide (63 < v.rcycle + 1) from rfl]
  simp only [decide_eq_true_eq, palStealRun] at h ⊢
  split_ifs at h ⊢ <;> omega

/-- The loop stops paying at the first tick that is not stolen. -/
theorem payCycle_of_not_steal {s : State} (h : s.steal = false) (bound : Nat) : payCycle bound s = tickCycle s := by
  cases bound with
  | zero => rfl
  | succ bound => rw [payCycle, h, if_neg Bool.false_ne_true]

/-- From a run of at most `n` stealable cycles: the stolen ticks up to the first that is not stolen, and the loop that
makes them. -/
theorem exists_unstolen_tick (n : Nat) {s : State} (hpal : s.params.videoStandard = .pal)
    (hn : palStealRun s.vic.rcycle ≤ n) : ∃ k ≤ n, (∀ j < k, (tickCycle^[j] s).steal = true) ∧
      (tickCycle^[k] s).steal = false ∧ ∀ bound, k ≤ bound → payCycle bound s = tickCycle^[k + 1] s := by
  induction n generalizing s with
  | zero =>
    have hfree : s.steal = false := by
      rw [← Bool.not_eq_true]
      exact fun h => absurd (State.palStealRun_pos hpal h) (by omega)
    exact ⟨0, le_refl 0, fun j hj => absurd hj (Nat.not_lt_zero j), hfree, fun b _ => payCycle_of_not_steal hfree b⟩
  | succ n ih =>
    cases hsteal : s.steal with
    | false =>
      exact ⟨0, Nat.zero_le _, fun j hj => absurd hj (Nat.not_lt_zero j), hsteal,
        fun b _ => payCycle_of_not_steal hsteal b⟩
    | true =>
      obtain ⟨hvic, hparams, -⟩ := tickCycle_frame s
      have hshorter := Vic.palStealRun_tick (State.palStealRun_pos hpal hsteal)
      obtain ⟨k, hk, hstolen, hfree, hpay⟩ := ih (s := tickCycle s) (hparams ▸ hpal) (by rw [hvic, hpal]; omega)
      refine ⟨k + 1, Nat.succ_le_succ hk, fun j hj => ?_, hfree, fun bound hbound => ?_⟩
      · cases j with
        | zero => exact hsteal
        | succ j => exact hstolen j (by omega)
      · obtain ⟨b, rfl⟩ := Nat.exists_eq_add_of_le' hbound
        rw [← Nat.add_assoc, payCycle, hsteal, if_pos rfl, hpay (b + k) (Nat.le_add_left k b)]
        rfl

theorem cycle_iterate_tickCycle (k : Nat) (s : State) : (tickCycle^[k] s).cycle = s.cycle + k := by
  induction k with
  | zero => rfl
  | succ k ih =>
    obtain ⟨-, -, hcycle⟩ := tickCycle_frame (tickCycle^[k] s)
    rw [Function.iterate_succ_apply', hcycle, ih, Nat.add_assoc]

theorem repeat_eq_iterate {α : Type} (f : α → α) (k : Nat) (x : α) : Nat.repeat f k x = f^[k] x := by
  induction k with
  | zero => rfl
  | succ k ih => rw [Nat.repeat, ih, Function.iterate_succ_apply']

/-- Settles O53: a run of stealable cycles is at most forty long, and the loop's bound is above that. -/
theorem stolenTicksPayForNoCycle : Obligations.StolenTicksPayForNoCycle := by
  intro s hpal
  obtain ⟨k, hk, hstolen, hfree, hpay⟩ := exists_unstolen_tick 40 hpal (palStealRun_le s.vic.rcycle)
  have hbound : k ≤ stealBound := hk.trans (by decide)
  simp only [repeat_eq_iterate]
  exact ⟨k, hk, hstolen, hfree, hpay stealBound hbound, by rw [hpay stealBound hbound, cycle_iterate_tickCycle]⟩

end Sys2Proof.Machine

namespace Sys2Proof.Machine

/-! # A step, Retire, the boundary and the state after reset (60_exceptions.md R300 to R311, R330, R369, R382) -/

/-! ## After reset (R369; 10_state.md R38) -/

/-- Settles O38, store by store and device by device; every conjunct is about values. -/
theorem invariantHoldsAtReset : Obligations.InvariantHoldsAtReset := by
  refine (State.inv_iff _).2 ⟨Memory.canonical_nil _, Memory.canonical_nil _, Memory.canonical_nil _,
    ⟨by decide, by decide, by decide⟩, ⟨rfl, rfl⟩, ⟨rfl, rfl⟩, ⟨fun _ => rfl, fun _ => rfl⟩, ?_⟩
  exact Session.agrees_of_inactive Lifecycle.noConfusion rfl rfl

/-! ## Retire (R302, R304, R310, R311) -/

theorem State.irqLine_eq (s : State) :
    s.irqLine = (decide (s.vic.irqLatch &&& s.vic.irqEnable ≠ 0) || s.cia1.ir) := by
  rw [State.irqLine, Vic.irq_eq]

/-- Retire latches by the lines: NMI when an edge is remembered, else IRQ when it is not masked. -/
theorem retire_eq_withCpu (s : State) :
    let pending := s.cpu.nmiPending || (s.nmiLine && !s.cpu.nmiPrev)
    retire s = s.withCpu { s.cpu with
      nmiPrev := s.nmiLine
      nmiPending := false
      intLatch := if pending then some .nmi else if s.irqLine && !s.cpu.p.i then some .irq else none } := by
  intro pending
  have hsample : sampleNmi s = s.withCpu { s.cpu with nmiPending := pending, nmiPrev := s.nmiLine } := rfl
  rw [retire, hsample]
  cases pending with
  | true => rfl
  | false =>
    simp only [State.withCpu_cpu, Bool.false_eq_true, if_false,
      show ∀ c, (s.withCpu c).irqLine = s.irqLine from fun _ => rfl]
    split <;> rfl

/-- Settles O45: the lines written out. -/
theorem retireSamplesTheInterruptLines : Obligations.RetireSamplesTheInterruptLines := by
  intro s vicIrq irq nmi pending
  refine ⟨rfl, ?_⟩
  rw [retire_eq_withCpu, State.irqLine_eq]
  rfl

/-! ## Breakpoints and watches (R381, R382) -/

theorem Breakpoint.stops_iff (s : State) (b : Breakpoint) : b.stops s = true ↔
    b.enabled = true ∧ b.kind = .execute ∧ b.addr = s.cpu.pc ∧ s.cpu.jammed = false ∧ s.cpu.intLatch = none := by
  simp only [Breakpoint.stops, State.willFetch, Bool.and_eq_true, beq_iff_eq, Bool.not_eq_true']
  tauto

/-- An access touches a watch of its own kind at its own address. -/
theorem BusAccess.touches_iff (a : Word) (k : WatchKind) (e : BusAccess) : e.touches a k = true ↔
    (k = .read ∧ ∃ v, e = .read a v) ∨ (k = .write ∧ ∃ v, e = .write a v) := by
  cases k <;> cases e <;> simp [BusAccess.touches, eq_comm (a := a)]

theorem Breakpoint.watches_iff (s : State) (b : Breakpoint) : b.watches s = true ↔
    b.enabled = true ∧ ((b.kind = .read ∧ ∃ v, BusAccess.read b.addr v ∈ s.trace) ∨
      (b.kind = .write ∧ ∃ v, BusAccess.write b.addr v ∈ s.trace)) := by
  simp only [Breakpoint.watches, Bool.and_eq_true, List.any_eq_true, BusAccess.touches_iff]
  refine and_congr_right fun _ => ⟨?_, ?_⟩
  · rintro ⟨e, he, ⟨hk, v, rfl⟩ | ⟨hk, v, rfl⟩⟩
    · exact .inl ⟨hk, v, he⟩
    · exact .inr ⟨hk, v, he⟩
  · rintro (⟨hk, v, he⟩ | ⟨hk, v, he⟩)
    · exact ⟨_, he, .inl ⟨hk, v, rfl⟩⟩
    · exact ⟨_, he, .inr ⟨hk, v, rfl⟩⟩

/-- Settles O58: what an execute breakpoint and what a watch observes. -/
theorem breakpointsSuspendAtTheBoundary : Obligations.BreakpointsSuspendAtTheBoundary := by
  intro s hit
  have hiff (b : Breakpoint) : (b.stops s || b.watches s) = true ↔ hit b := by
    rw [Bool.or_eq_true, Breakpoint.stops_iff, Breakpoint.watches_iff, ← and_or_left]
  have hany : s.session.breakpoints.any (fun b => b.stops s || b.watches s) = true ↔
      ∃ b ∈ s.session.breakpoints, hit b := by
    simp only [List.any_eq_true, hiff]
  refine ⟨fun h => ?_, fun h => if_neg (mt hany.1 h)⟩
  rw [checkBreakpoints, if_pos (hany.2 h)]
  exact ⟨rfl, rfl, rfl⟩

/-! ## Fetching from memory (R300; 00_scope.md R10) -/

/-- The state after the fetch of `n` bytes that no device answers, which begins the list of accesses anew. -/
def State.fetched (n : Nat) (s : State) : State := { s with
  cpu := { s.cpu with pc := s.cpu.pc + BitVec.ofNat 16 n }
  trace := ((List.range n).map fun k =>
    BusAccess.read (s.cpu.pc + BitVec.ofNat 16 k) (s.peek (s.cpu.pc + BitVec.ofNat 16 k))).reverse }

theorem State.fetched_zero (s : State) : s.fetched 0 = { s with trace := [] } := by
  simp [State.fetched]

theorem State.peek_fetched (n : Nat) {s : State} {a : Word} (hio : s.store a ≠ .io) :
    (s.fetched n).peek a = s.peek a :=
  State.peek_congr (s := s) (t := s.fetched n) rfl rfl rfl rfl hio

theorem fetch8_fetched {n : Nat} {s : State} (hio : s.store (s.cpu.pc + BitVec.ofNat 16 n) ≠ .io) :
    fetch8 (s.fetched n) = (s.peek (s.cpu.pc + BitVec.ofNat 16 n), s.fetched (n + 1)) := by
  have hread : (s.fetched n).busRead (s.fetched n).cpu.pc = (s.peek (s.cpu.pc + BitVec.ofNat 16 n), s.fetched n) :=
    Prod.ext (State.peek_fetched n hio) (State.busRead_pure _ (s.fetched n) hio)
  rw [fetch8_eq, memRead, hread]
  simp [State.fetched, State.log, State.setPc, List.range_succ, BitVec.ofNat_add, BitVec.add_assoc]

/-- When no device answers the next three bytes, fetching gives what they decode to. -/
theorem fetchInstr_eq {s : State} {i : Instr} {rest : List Byte}
    (hio : ∀ k < 3, s.store (s.cpu.pc + BitVec.ofNat 16 k) ≠ .io)
    (hdecode : decode [s.peek s.cpu.pc, s.peek (s.cpu.pc + 1), s.peek (s.cpu.pc + 2)] = .ok (i, rest)) :
    fetchInstr { s with trace := [] } = (i, s.fetched (fetchedBytes (s.peek s.cpu.pc))) := by
  have h0 : fetch8 (s.fetched 0) = (s.peek s.cpu.pc, s.fetched 1) := by
    have h := fetch8_fetched (hio 0 (by decide))
    rwa [show s.cpu.pc + BitVec.ofNat 16 0 = s.cpu.pc from BitVec.add_zero _] at h
  have h1 : fetch8 (s.fetched 1) = (s.peek (s.cpu.pc + 1), s.fetched 2) := fetch8_fetched (hio 1 (by decide))
  have h2 : fetch8 (s.fetched 2) = (s.peek (s.cpu.pc + 2), s.fetched 3) := fetch8_fetched (hio 2 (by decide))
  have hlast : (s.fetched 2).peek (s.fetched 2).cpu.pc = s.peek (s.cpu.pc + 2) :=
    State.peek_fetched 2 (hio 2 (by decide))
  rw [← State.fetched_zero]
  simp only [fetchInstr, h0, h1, h2, hlast]
  by_cases hjsr : s.peek s.cpu.pc = 0x20
  case pos =>
    rw [decode_length_three (by rw [hjsr]; rfl), Except.ok.injEq, Prod.mk.injEq] at hdecode
    rw [if_pos hjsr, fetchedBytes, if_pos hjsr, hdecode.1]
  rw [if_neg hjsr, fetchedBytes, if_neg hjsr]
  obtain hl | hl | hl := opcodeLength_cases (s.peek s.cpu.pc)
  · rw [decode_length_one hl, Except.ok.injEq, Prod.mk.injEq] at hdecode
    rw [hl, hdecode.1]
    rfl
  · rw [decode_length_two hl, Except.ok.injEq, Prod.mk.injEq] at hdecode
    rw [hl, hdecode.1]
    rfl
  · rw [decode_length_three hl, Except.ok.injEq, Prod.mk.injEq] at hdecode
    rw [hl, hdecode.1]
    rfl

theorem retireUnlessJammed_trace (s : State) : (retireUnlessJammed s).trace = s.trace := by
  unfold retireUnlessJammed
  split
  · rfl
  · rw [retire_eq_withCpu]; rfl

theorem payOwed_of_not_owed {s : State} (h : s.owed = 0) : payOwed s = s := by
  rw [payOwed, h]
  exact congrArg (fun n => { s with owed := n }) h.symm

theorem step_of_isRunning {s : State} (h : s.session.isRunning = true) : step s = iterate boundary s := by
  rw [Session.isRunning, Bool.or_eq_true, beq_iff_eq, beq_iff_eq] at h
  obtain h | h := h <;> rw [step, runLoop, h]

theorem cpuStep_of_fetch {s : State} (hjam : s.cpu.jammed = false) (hlatch : s.cpu.intLatch = none) :
    cpuStep s = executeNext { s with trace := [] } := by
  simp only [cpuStep, hjam, hlatch, Bool.false_eq_true, if_false]

/-- Settles O36: the fetches, then the step's outcome is its instruction's. -/
theorem stepRunsTheDecodedInstruction : Obligations.StepRunsTheDecodedInstruction := by
  intro s i rest hrun howed hjam hlatch hio hdecode _ n f
  have hfetch : fetchInstr { s with trace := [] } = (i, f) := fetchInstr_eq hio hdecode
  rw [step_of_isRunning hrun, iterate, payOwed_of_not_owed howed, cpuStep_of_fetch hjam hlatch, executeNext, hfetch]
  dsimp only
  cases exec i f with
  | next t =>
    dsimp only
    rw [retireUnlessJammed_trace]
    rfl
  | fault r => rfl
  | refused r => rfl

end Sys2Proof.Machine

namespace Sys2Proof.Machine

/-! # The audio chip and the ports of the I/O timer chips (60_exceptions.md R351 to R366)

## A voice's tick (R361, R362) -/

/-- The envelope counter moves by at most one; the registers, the accumulator and the noise register do not move. -/
theorem Voice.tickEnv_eq (draw : Nat) (v : Voice) : ∃ env phase,
    v.tickEnv draw = { v with env := env, phase := phase } ∧ (env = v.env ∨ env = v.env + 1 ∨ env = v.env - 1) := by
  unfold Voice.tickEnv
  split
  case h_1 =>
    split
    · exact ⟨_, _, rfl, .inl rfl⟩
    split
    · exact ⟨_, _, rfl, .inr (.inl rfl)⟩
    · exact ⟨_, _, rfl, .inl rfl⟩
  case h_2 | h_3 =>
    split
    · exact ⟨_, _, rfl, .inr (.inr rfl)⟩
    · exact ⟨_, _, rfl, .inl rfl⟩

/-- The accumulator after a tick, hard sync included. -/
def Sid.nextAcc (c : Sid) (i : Fin 3) : BitVec 24 :=
  if (c.voice i).control.getLsbD 1 && (c.voice (Config.voiceModulator i)).rises then 0 else (c.voice i).stepAcc

theorem Sid.tickVoices_voice (c : Sid) (i : Fin 3) : c.tickVoices.voice i = c.tickVoice i := by
  fin_cases i <;> rfl

/-- A tick moves the accumulator, then clocks the noise register by it, then moves the envelope. -/
theorem Sid.tickVoice_eq (c : Sid) (i : Fin 3) : ∃ env phase,
    c.tickVoices.voice i = { (c.voice i).setAcc (c.nextAcc i) with env := env, phase := phase } ∧
      (env = (c.voice i).env ∨ env = (c.voice i).env + 1 ∨ env = (c.voice i).env - 1) := by
  rw [Sid.tickVoices_voice]
  exact Voice.tickEnv_eq (c.drawOf i) ((c.voice i).setAcc (c.nextAcc i))

theorem Voice.stepAcc_eq (v : Voice) :
    v.stepAcc = if v.control.getLsbD 3 then 0 else v.acc + BitVec.ofNat 24 v.freq.toNat := by
  rw [BitVec.ofNat_toNat]
  rfl

theorem Sid.nextAcc_of_no_sync {c : Sid} {i : Fin 3} (h : (c.voice i).control.getLsbD 1 = false) :
    c.nextAcc i = (c.voice i).stepAcc := by
  rw [Sid.nextAcc, h, Bool.false_and, if_neg Bool.false_ne_true]

theorem Sid.nextAcc_of_test {c : Sid} {i : Fin 3} (h : (c.voice i).control.getLsbD 3 = true) : c.nextAcc i = 0 := by
  rw [Sid.nextAcc, Voice.stepAcc, if_pos h, ite_self]

/-- The feedback bit fills the place the shift leaves empty. -/
theorem clockNoise_eq (r : BitVec 23) : clockNoise r =
    BitVec.ofNat 23 (2 * r.toNat) ||| BitVec.ofNat 23 ((r.getLsbD 22) ^^ (r.getLsbD 17)).toNat := by
  apply BitVec.eq_of_toNat_eq
  have hbit := ((r.getLsbD 22) ^^ (r.getLsbD 17)).toNat_le
  have hshift : (BitVec.ofNat 23 (2 * r.toNat)).toNat = 2 ^ 1 * (r.toNat % 2 ^ 22) := by
    rw [BitVec.toNat_ofNat]
    omega
  have hfeedback : (BitVec.ofNat 23 ((r.getLsbD 22) ^^ (r.getLsbD 17)).toNat).toNat =
      ((r.getLsbD 22) ^^ (r.getLsbD 17)).toNat := Nat.mod_eq_of_lt (by omega)
  rw [clockNoise, toNat_append_eq, BitVec.extractLsb'_toNat, BitVec.toNat_ofBool, Nat.shiftRight_zero,
    BitVec.toNat_or, hshift, hfeedback, ← Nat.two_pow_add_eq_or_of_lt (by omega)]

/-- Outside `$19` to `$1C` the chip drives no read (R361). -/
theorem Sid.read_undriven {n : BitVec 5} (h : n.toNat < 0x19 ∨ 0x1D ≤ n.toNat) (draw : Nat) (c : Sid) :
    c.read n draw = none := by
  unfold Sid.read
  split
  case h_5 => rfl
  all_goals omega

/-- Settles O59: the parts of a voice's tick, then the registers that drive a read. -/
theorem audioVoicesAdvanceEachTick : Obligations.AudioVoicesAdvanceEachTick := by
  intro c i n v w
  obtain ⟨env, phase, hw, henv⟩ := c.tickVoice_eq i
  have hacc : w.acc = c.nextAcc i := congrArg Voice.acc hw
  have hnoise : w.noise = if w.acc.getLsbD 19 && !v.acc.getLsbD 19 then clockNoise v.noise else v.noise := by
    rw [hacc]
    exact congrArg Voice.noise hw
  refine ⟨fun h => ?_, fun h => ?_, ?_, ?_, ?_, fun draw => ⟨fun h => Sid.read_undriven h draw c, rfl, rfl, rfl⟩,
    fun s a => State.busRead_sid a s⟩
  · rw [hacc, Sid.nextAcc_of_no_sync h, Voice.stepAcc_eq]
  · rw [hacc, Sid.nextAcc_of_test h]
  · rw [hnoise, clockNoise_eq]
  · rw [show w.env = env from congrArg Voice.env hw]
    exact henv
  · rw [show w = _ from hw]
    exact ⟨rfl, rfl, rfl⟩

/-! ## The pins of the ports (R351, R354, R360, R365, R366) -/

/-- The map answers every address of the I/O region from the same store (20_memory.md R82). -/
theorem State.store_eq_of_io_region {s : State} {a b : Word} (ha : 0xD000 ≤ a.toNat ∧ a.toNat < 0xE000)
    (hb : 0xD000 ≤ b.toNat ∧ b.toNat < 0xE000) : s.store a = s.store b := by
  rw [State.store, State.store, storeOf_io _ _ ha.1 ha.2, storeOf_io _ _ hb.1 hb.2]

/-- A joystick that has not moved since the latest read reads as its value (log 12). -/
theorem Joystick.sample_of_steady {j : Joystick} (h : j.earlier = []) (draw : Nat) : j.sample draw = j.now :=
  if_pos h

/-- With no timer on it port B is driven by its latch and direction alone (R351, R357). -/
theorem Cia.portB_of_no_timer {c : Cia} (ha : c.ta.ctrl.getLsbD 1 = false) (hb : c.tb.ctrl.getLsbD 1 = false) :
    c.portB = (c.prb &&& c.ddrb) ||| ~~~c.ddrb := by
  simp only [Cia.portB, ha, hb, Bool.false_eq_true, if_false]
  rfl

theorem State.peek_portA {s : State} (hio : s.store 0xDC00 = .io) (hsteady : s.input.joy2.earlier = []) :
    s.peek 0xDC00 = s.cia1.portA &&& (~~~(s.input.joy2.now.zeroExtend 8) &&& keyRows s.cia1.portB s.input.keys) := by
  rw [State.peek, State.busRead, hio, ← Joystick.sample_of_steady hsteady s.draws.joystick]
  rfl

theorem State.peek_portB {s : State} (hio : s.store 0xDC01 = .io) (hsteady : s.input.joy1.earlier = []) :
    s.peek 0xDC01 =
      s.cia1.portB &&& (~~~(s.input.joy1.now.zeroExtend 8) &&& keyColumns s.cia1.portA s.input.keys) := by
  rw [State.peek, State.busRead, hio, ← Joystick.sample_of_steady hsteady s.draws.joystick]
  rfl

theorem State.peek_serialPort {s : State} (hio : s.store 0xDD00 = .io) :
    s.peek 0xDD00 = s.cia2.portA &&& s.serialPins := by
  rw [State.peek, State.busRead, hio]
  rfl

/-- One pressed key pulls its column low when its row is driven low. -/
theorem keyColumns_singleton (rows : Byte) (r c : Fin 8) :
    keyColumns rows [(r, c)] = if rows.getLsbD r then 0xFF else ~~~(1#8 <<< c.val) := by
  rw [keyColumns, List.foldl_cons, List.foldl_nil]
  exact congrArg (ite _ _) (BitVec.allOnes_and (x := ~~~(1#8 <<< c.val)))

/-- With no drive attached the machine alone pulls the serial lines. -/
theorem State.serialPins_of_no_drive {s : State} (h : s.input.drives = []) :
    s.serialPins = ~~~(BitVec.ofNat 8 (64 * ((s.cia2.pra &&& s.cia2.ddra).getLsbD 4).toNat) |||
      BitVec.ofNat 8 (128 * ((s.cia2.pra &&& s.cia2.ddra).getLsbD 5).toNat)) := by
  have hclk : s.clkLow = (s.cia2.pra &&& s.cia2.ddra).getLsbD 4 := by
    rw [State.clkLow, h, List.any_nil, Bool.or_false, Cia.pulls, BitVec.getLsbD_and]
  have hdata : s.dataLow = (s.cia2.pra &&& s.cia2.ddra).getLsbD 5 := by
    rw [State.dataLow, h, List.any_nil, Bool.or_false, Cia.pulls, BitVec.getLsbD_and]
  rw [State.serialPins, hclk, hdata]
  cases (s.cia2.pra &&& s.cia2.ddra).getLsbD 4 <;> cases (s.cia2.pra &&& s.cia2.ddra).getLsbD 5 <;> rfl

/-- Settles O60: what the pins of each port carry. -/
theorem ciaPortsSeeThePins : Obligations.CiaPortsSeeThePins := by
  intro s hio hjoy1 hjoy2 hkeys hta htb
  have hio1 : s.store 0xDC01 = .io := (State.store_eq_of_io_region (by decide) (by decide)).trans hio
  have hio2 : s.store 0xDD00 = .io := (State.store_eq_of_io_region (by decide) (by decide)).trans hio
  have hportA : (s.busRead 0xDC00).1 = s.cia1.portA &&& ~~~(s.input.joy2.now.zeroExtend 8) := by
    rw [← State.peek, State.peek_portA hio hjoy2, hkeys]
    exact congrArg (_ &&& ·) BitVec.and_allOnes
  have hportB : (s.busRead 0xDC01).1 = s.cia1.portB &&& ~~~(s.input.joy1.now.zeroExtend 8) := by
    rw [← State.peek, State.peek_portB hio1 hjoy1, hkeys]
    exact congrArg (_ &&& ·) BitVec.and_allOnes
  refine ⟨hportA, ?_, fun r c => ?_, fun hdrives => ?_⟩
  · rw [hportB, Cia.portB_of_no_timer hta htb]
  · have hkey := State.peek_portB (s := { s with input := { s.input with keys := [(r, c)] } }) hio1 hjoy1
    rw [hportB, BitVec.and_assoc, ← keyColumns_singleton]
    exact hkey
  · rw [← State.peek, State.peek_serialPort hio2, State.serialPins_of_no_drive hdrives]
    rfl

end Sys2Proof.Machine

namespace Sys2Proof.Machine

/-! # The CPU and the chipset do not see the session (10_state.md R37; 60_exceptions.md R330)

What the session holds is for the boundary: changing it before a step of the CPU is changing it after, and the ticks add
events to it and look at nothing. -/

/-- The machine with its session changed. -/
def State.mapSession (g : Session → Session) (s : State) : State := { s with session := g s.session }

section

variable (g : Session → Session) (s : State)

/-! ## Fields and registers -/

@[simp] theorem State.mapSession_cpu : (s.mapSession g).cpu = s.cpu := rfl
@[simp] theorem State.mapSession_params : (s.mapSession g).params = s.params := rfl
@[simp] theorem State.mapSession_draws : (s.mapSession g).draws = s.draws := rfl
@[simp] theorem State.mapSession_setA (v : Byte) : (s.mapSession g).setA v = (s.setA v).mapSession g := rfl
@[simp] theorem State.mapSession_setS (v : Byte) : (s.mapSession g).setS v = (s.setS v).mapSession g := rfl
@[simp] theorem State.mapSession_setPc (w : Word) : (s.mapSession g).setPc w = (s.setPc w).mapSession g := rfl
@[simp] theorem State.mapSession_setP (p : Flags) : (s.mapSession g).setP p = (s.setP p).mapSession g := rfl
@[simp] theorem State.mapSession_setNZ (v : Byte) : (s.mapSession g).setNZ v = (s.setNZ v).mapSession g := rfl
@[simp] theorem State.mapSession_setC (b : Bool) : (s.mapSession g).setC b = (s.setC b).mapSession g := rfl
@[simp] theorem State.mapSession_setI (b : Bool) : (s.mapSession g).setI b = (s.setI b).mapSession g := rfl
@[simp] theorem State.mapSession_loadA (v : Byte) : (s.mapSession g).loadA v = (s.loadA v).mapSession g := rfl
@[simp] theorem State.mapSession_loadX (v : Byte) : (s.mapSession g).loadX v = (s.loadX v).mapSession g := rfl
@[simp] theorem State.mapSession_loadY (v : Byte) : (s.mapSession g).loadY v = (s.loadY v).mapSession g := rfl
@[simp] theorem State.mapSession_setAlu (o : AluResult) : (s.mapSession g).setAlu o = (s.setAlu o).mapSession g := rfl
@[simp] theorem State.mapSession_log (e : BusAccess) : (s.mapSession g).log e = (s.log e).mapSession g := rfl
@[simp] theorem State.mapSession_countUnstable :
    (s.mapSession g).countUnstable = s.countUnstable.mapSession g := rfl

/-! ## Accesses -/

theorem State.countOsc3_mapSession (n : BitVec 5) :
    (s.mapSession g).countOsc3 n = (s.countOsc3 n).mapSession g := by
  unfold State.countOsc3
  rw [show (s.mapSession g).sid = s.sid from rfl]
  split <;> rfl

theorem State.readCia1_mapSession (n : BitVec 4) :
    (s.mapSession g).readCia1 n = ((s.readCia1 n).1, (s.readCia1 n).2.mapSession g) := by
  unfold State.readCia1 State.countJoystick
  rw [show (s.mapSession g).input = s.input from rfl]
  dsimp only
  split
  case h_1 | h_2 => split <;> rfl
  case h_3 => rfl

theorem State.ioRead_mapSession (a : Word) :
    (s.mapSession g).ioRead a = ((s.ioRead a).1, (s.ioRead a).2.mapSession g) := by
  unfold State.ioRead
  rw [show (s.mapSession g).sid = s.sid from rfl, State.mapSession_draws]
  split
  case h_2 =>
    split
    · rw [State.countOsc3_mapSession]
    · rfl
  case h_4 => exact State.readCia1_mapSession g s _
  all_goals rfl

@[simp] theorem State.busRead_mapSession (a : Word) :
    (s.mapSession g).busRead a = ((s.busRead a).1, (s.busRead a).2.mapSession g) := by
  unfold State.busRead
  rw [show (s.mapSession g).store a = s.store a from rfl]
  split
  case h_7 => exact State.ioRead_mapSession g s a
  all_goals rfl

theorem State.ioWrite_mapSession (a : Word) (v : Byte) :
    (s.mapSession g).ioWrite a v = (s.ioWrite a v).mapSession g := by
  unfold State.ioWrite
  split <;> rfl

@[simp] theorem State.busWrite_mapSession (a : Word) (v : Byte) :
    (s.mapSession g).busWrite a v = (s.busWrite a v).mapSession g := by
  unfold State.busWrite State.writeUnderRom
  rw [show (s.mapSession g).store a = s.store a from rfl, State.mapSession_params]
  split
  case h_4 | h_5 | h_6 => split <;> rfl
  case h_7 => exact State.ioWrite_mapSession g s a v
  all_goals rfl

@[simp] theorem memRead_mapSession (a : Word) :
    memRead a (s.mapSession g) = ((memRead a s).1, (memRead a s).2.mapSession g) := by
  simp [memRead]
@[simp] theorem memWrite_mapSession (a : Word) (v : Byte) :
    memWrite a v (s.mapSession g) = (memWrite a v s).mapSession g := by
  simp [memWrite]
@[simp] theorem dummyRead_mapSession (a : Word) : dummyRead a (s.mapSession g) = (dummyRead a s).mapSession g := by
  simp [dummyRead]
@[simp] theorem dummyPc_mapSession : dummyPc (s.mapSession g) = (dummyPc s).mapSession g := by
  simp [dummyPc]
@[simp] theorem dummyStack_mapSession : dummyStack (s.mapSession g) = (dummyStack s).mapSession g := by
  simp [dummyStack]
@[simp] theorem fetch8_mapSession :
    fetch8 (s.mapSession g) = ((fetch8 s).1, (fetch8 s).2.mapSession g) := by
  simp [fetch8]
@[simp] theorem push_mapSession (v : Byte) : push v (s.mapSession g) = (push v s).mapSession g := by
  simp [push]
@[simp] theorem pull_mapSession : pull (s.mapSession g) = ((pull s).1, (pull s).2.mapSession g) := by
  simp [pull]
@[simp] theorem pushWord_mapSession (w : Word) : pushWord w (s.mapSession g) = (pushWord w s).mapSession g := by
  simp [pushWord]
@[simp] theorem pullWord_mapSession :
    pullWord (s.mapSession g) = ((pullWord s).1, (pullWord s).2.mapSession g) := by
  simp [pullWord]
@[simp] theorem pullFlags_mapSession : pullFlags (s.mapSession g) = (pullFlags s).mapSession g := by
  simp [pullFlags]
@[simp] theorem jumpThrough_mapSession (a : Word) :
    jumpThrough a (s.mapSession g) = (jumpThrough a s).mapSession g := by
  simp [jumpThrough, readWord]
@[simp] theorem enterHandler_mapSession (a : Word) (brk : Bool) :
    enterHandler a brk (s.mapSession g) = (enterHandler a brk s).mapSession g := by
  simp [enterHandler]
@[simp] theorem raiseInterrupt_mapSession (k : Interrupt) :
    raiseInterrupt k (s.mapSession g) = (raiseInterrupt k s).mapSession g := by
  simp [raiseInterrupt]
@[simp] theorem returnFromHandler_mapSession :
    returnFromHandler (s.mapSession g) = (returnFromHandler s).mapSession g := by
  simp [returnFromHandler]

/-! ## Operands -/

@[simp] theorem readPointer_mapSession (q : Byte) :
    readPointer q (s.mapSession g) = ((readPointer q s).1, (readPointer q s).2.mapSession g) := by
  simp [readPointer]

@[simp] theorem indexed_mapSession (k : AccessKind) (base : Word) (index : Byte) :
    indexed k base index (s.mapSession g) = ((indexed k base index s).1, (indexed k base index s).2.mapSession g) := by
  unfold indexed
  dsimp only
  split
  · rfl
  · rw [dummyRead_mapSession]

@[simp] theorem resolve_mapSession (k : AccessKind) (m : MemMode) :
    resolve k m (s.mapSession g) = ((resolve k m s).1, (resolve k m s).2.mapSession g) := by
  cases m <;> simp [resolve]

@[simp] theorem readOperand_mapSession (o : Src) :
    readOperand o (s.mapSession g) = ((readOperand o s).1, (readOperand o s).2.mapSession g) := by
  cases o <;> simp [readOperand]

@[simp] theorem writeOperand_mapSession (m : MemMode) (v : Byte) :
    writeOperand m v (s.mapSession g) = (writeOperand m v s).mapSession g := by
  simp [writeOperand]

@[simp] theorem modify_mapSession (m : MemMode) (f : ByteOp) :
    modify m f (s.mapSession g) = ((modify m f s).1, (modify m f s).2.mapSession g) := by
  simp [modify, modifyAt]

@[simp] theorem nopAccess_mapSession (form : NopForm) :
    nopAccess form (s.mapSession g) = (nopAccess form s).mapSession g := by
  cases form <;> simp [nopAccess]

@[simp] theorem unstableStore_mapSession (v : Byte) (m : MemMode) :
    unstableStore v m (s.mapSession g) = (unstableStore v m s).mapSession g := by
  simp [unstableStore]

/-! ## Instructions -/

/-- An undocumented opcode, by its meaning under `Quirk`. -/
theorem undocumented_mapSession {form : NopForm} {op : Byte} {quirk : State → State}
    (h : quirk (s.mapSession g) = (quirk s).mapSession g) :
    undocumented form op quirk (s.mapSession g) = (undocumented form op quirk s).mapSession g := by
  unfold undocumented
  rw [State.mapSession_params]
  split
  · exact h
  · rw [nopAccess_mapSession]
    rfl

@[simp] theorem opBranch_mapSession (cond : Bool) (d : Byte) :
    opBranch cond d (s.mapSession g) = (opBranch cond d s).mapSession g := by
  simp only [opBranch, State.mapSession_cpu, dummyPc_mapSession, dummyRead_mapSession]
  split
  · split <;> rfl
  · rfl

@[simp] theorem opCompare_mapSession (reg : Cpu → Byte) (o : Src) :
    opCompare reg o (s.mapSession g) = (opCompare reg o s).mapSession g := by
  simp [opCompare]
@[simp] theorem opLogic_mapSession (f : Byte → Byte → Byte) (o : Src) :
    opLogic f o (s.mapSession g) = (opLogic f o s).mapSession g := by
  simp [opLogic]
@[simp] theorem opModify_mapSession (f : ByteOp) (m : MemMode) :
    opModify f m (s.mapSession g) = (opModify f m s).mapSession g := by
  simp [opModify]
@[simp] theorem opModifyLogic_mapSession (f : ByteOp) (h : Byte → Byte → Byte) (m : MemMode) :
    opModifyLogic f h m (s.mapSession g) = (opModifyLogic f h m s).mapSession g := by
  simp [opModifyLogic]
@[simp] theorem opAdc_mapSession (o : Src) : opAdc o (s.mapSession g) = (opAdc o s).mapSession g := by
  simp [opAdc]
@[simp] theorem opSbc_mapSession (o : Src) : opSbc o (s.mapSession g) = (opSbc o s).mapSession g := by
  simp [opSbc]
@[simp] theorem opLax_mapSession (o : Src) : opLax o (s.mapSession g) = (opLax o s).mapSession g := by
  simp [opLax]
@[simp] theorem opRra_mapSession (m : MemMode) : opRra m (s.mapSession g) = (opRra m s).mapSession g := by
  simp [opRra]
@[simp] theorem opDcp_mapSession (m : MemMode) : opDcp m (s.mapSession g) = (opDcp m s).mapSession g := by
  simp [opDcp]
@[simp] theorem opIsc_mapSession (m : MemMode) : opIsc m (s.mapSession g) = (opIsc m s).mapSession g := by
  simp [opIsc]

@[simp] theorem opJam_mapSession (op : Byte) : opJam op (s.mapSession g) = (opJam op s).mapSession g := by
  rw [opJam, dummyPc_mapSession]
  rfl

/-- No instruction sees the session. -/
theorem exec_mapSession (i : Instr) :
    ∃ t, exec i s = .next t ∧ exec i (s.mapSession g) = .next (t.mapSession g) := by
  have same {t t' : State} (h : t' = t.mapSession g) : (.next t' : Result) = .next (t.mapSession g) := by rw [h]
  have undoc {form : NopForm} {op : Byte} {quirk : State → State}
      (h : quirk (s.mapSession g) = (quirk s).mapSession g) :
      (.next (undocumented form op quirk (s.mapSession g)) : Result) =
        .next ((undocumented form op quirk s).mapSession g) := same (undocumented_mapSession g s h)
  cases i with
  | ldaIzx | ldaZp | ldaImm | ldaAbs | ldaIzy | ldaZpx | ldaAby | ldaAbx => exact ⟨_, rfl, same (by simp [opLda])⟩
  | ldxImm | ldxZp | ldxAbs | ldxZpy | ldxAby => exact ⟨_, rfl, same (by simp [opLdx])⟩
  | ldyImm | ldyZp | ldyAbs | ldyZpx | ldyAbx => exact ⟨_, rfl, same (by simp [opLdy])⟩
  | staIzx | staZp | staAbs | staIzy | staZpx | staAby | staAbx => exact ⟨_, rfl, same (by simp [opSta])⟩
  | stxZp | stxAbs | stxZpy => exact ⟨_, rfl, same (by simp [opStx])⟩
  | styZp | styAbs | styZpx => exact ⟨_, rfl, same (by simp [opSty])⟩
  | tax => exact ⟨_, rfl, same (by simp [opTax])⟩
  | tay => exact ⟨_, rfl, same (by simp [opTay])⟩
  | txa => exact ⟨_, rfl, same (by simp [opTxa])⟩
  | tya => exact ⟨_, rfl, same (by simp [opTya])⟩
  | tsx => exact ⟨_, rfl, same (by simp [opTsx])⟩
  | txs => exact ⟨_, rfl, same (by simp [opTxs])⟩
  | pha => exact ⟨_, rfl, same (by simp [opPha])⟩
  | php => exact ⟨_, rfl, same (by simp [opPhp])⟩
  | pla => exact ⟨_, rfl, same (by simp [opPla])⟩
  | plp => exact ⟨_, rfl, same (by simp [opPlp])⟩
  | clc => exact ⟨_, rfl, same (by simp [opClc, opFlag])⟩
  | sec => exact ⟨_, rfl, same (by simp [opSec, opFlag])⟩
  | cli => exact ⟨_, rfl, same (by simp [opCli, opFlag])⟩
  | sei => exact ⟨_, rfl, same (by simp [opSei, opFlag])⟩
  | clv => exact ⟨_, rfl, same (by simp [opClv, opFlag])⟩
  | cld => exact ⟨_, rfl, same (by simp [opCld, opFlag])⟩
  | sed => exact ⟨_, rfl, same (by simp [opSed, opFlag])⟩
  | nop => exact ⟨_, rfl, same (by simp [opNop])⟩
  | brk => exact ⟨_, rfl, same (by simp [opBrk])⟩
  | rti => exact ⟨_, rfl, same (by simp [opRti])⟩
  | jmpAbs => exact ⟨_, rfl, rfl⟩
  | jmpInd => exact ⟨_, rfl, same (by simp [opJmpInd])⟩
  | jsr => exact ⟨_, rfl, same (by simp [opJsr])⟩
  | rts => exact ⟨_, rfl, same (by simp [opRts])⟩
  | bpl | bmi | bvc | bvs | bcc | bcs | bne | beq => exact ⟨_, rfl, same (opBranch_mapSession g s _ _)⟩
  | adcIzx | adcZp | adcImm | adcAbs | adcIzy | adcZpx | adcAby | adcAbx =>
    exact ⟨_, rfl, same (opAdc_mapSession g s _)⟩
  | sbcIzx | sbcZp | sbcImm | sbcAbs | sbcIzy | sbcZpx | sbcAby | sbcAbx =>
    exact ⟨_, rfl, same (opSbc_mapSession g s _)⟩
  | cpyImm | cpyZp | cpyAbs | cmpIzx | cmpZp | cmpImm | cmpAbs | cmpIzy | cmpZpx | cmpAby | cmpAbx | cpxImm | cpxZp
      | cpxAbs => exact ⟨_, rfl, same (opCompare_mapSession g s _ _)⟩
  | inx => exact ⟨_, rfl, same (by simp [opInx])⟩
  | iny => exact ⟨_, rfl, same (by simp [opIny])⟩
  | dex => exact ⟨_, rfl, same (by simp [opDex])⟩
  | dey => exact ⟨_, rfl, same (by simp [opDey])⟩
  | oraIzx | oraZp | oraImm | oraAbs | oraIzy | oraZpx | oraAby | oraAbx | andIzx | andZp | andImm | andAbs | andIzy
      | andZpx | andAby | andAbx | eorIzx | eorZp | eorImm | eorAbs | eorIzy | eorZpx | eorAby | eorAbx =>
    exact ⟨_, rfl, same (opLogic_mapSession g s _ _)⟩
  | bitZp | bitAbs => exact ⟨_, rfl, same (by simp [opBit])⟩
  | aslAcc | rolAcc | lsrAcc | rorAcc => exact ⟨_, rfl, same (by simp [opShiftA])⟩
  | aslZp | aslAbs | aslZpx | aslAbx | rolZp | rolAbs | rolZpx | rolAbx | lsrZp | lsrAbs | lsrZpx | lsrAbx | rorZp |
      rorAbs | rorZpx | rorAbx | decZp | decAbs | decZpx | decAbx | incZp | incAbs | incZpx | incAbx =>
    exact ⟨_, rfl, same (opModify_mapSession g s _ _)⟩
  | sbcImmEB => exact ⟨_, rfl, undoc (opSbc_mapSession g s _)⟩
  | sloIzx | sloZp | sloAbs | sloIzy | sloZpx | sloAby | sloAbx | rlaIzx | rlaZp | rlaAbs | rlaIzy | rlaZpx | rlaAby
      | rlaAbx | sreIzx | sreZp | sreAbs | sreIzy | sreZpx | sreAby | sreAbx =>
    exact ⟨_, rfl, undoc (opModifyLogic_mapSession g s _ _ _)⟩
  | rraIzx | rraZp | rraAbs | rraIzy | rraZpx | rraAby | rraAbx => exact ⟨_, rfl, undoc (opRra_mapSession g s _)⟩
  | saxIzx | saxZp | saxAbs | saxZpy => exact ⟨_, rfl, undoc (by simp [opSax])⟩
  | laxIzx | laxZp | laxAbs | laxIzy | laxZpy | laxAby => exact ⟨_, rfl, undoc (opLax_mapSession g s _)⟩
  | dcpIzx | dcpZp | dcpAbs | dcpIzy | dcpZpx | dcpAby | dcpAbx => exact ⟨_, rfl, undoc (opDcp_mapSession g s _)⟩
  | iscIzx | iscZp | iscAbs | iscIzy | iscZpx | iscAby | iscAbx => exact ⟨_, rfl, undoc (opIsc_mapSession g s _)⟩
  | ancImm0B | ancImm2B | alrImm | arrImm | sbxImm | aneImm | lxaImm => exact ⟨_, rfl, undoc rfl⟩
  | lasAby => exact ⟨_, rfl, undoc (by simp [opLas])⟩
  | shaIzy | shaAby => exact ⟨_, rfl, undoc (by simp [opSha])⟩
  | shxAby => exact ⟨_, rfl, undoc (by simp [opShx])⟩
  | shyAbx => exact ⟨_, rfl, undoc (by simp [opShy])⟩
  | tasAby => exact ⟨_, rfl, undoc (by simp [opTas])⟩
  | nopZp04 | nopAbs0C | nopZpx14 | nopImp1A | nopAbx1C | nopZpx34 | nopImp3A | nopAbx3C | nopZp44 | nopZpx54 |
      nopImp5A | nopAbx5C | nopZp64 | nopZpx74 | nopImp7A | nopAbx7C | nopImm80 | nopImm82 | nopImm89 | nopImmC2 |
      nopZpxD4 | nopImpDA | nopAbxDC | nopImmE2 | nopZpxF4 | nopImpFA | nopAbxFC =>
    exact ⟨_, rfl, undoc (nopAccess_mapSession g s _)⟩
  | jam02 | jam12 | jam22 | jam32 | jam42 | jam52 | jam62 | jam72 | jam92 | jamB2 | jamD2 | jamF2 =>
    exact ⟨_, rfl, undoc (opJam_mapSession g s _)⟩

/-! ## A step of the CPU (60_exceptions.md R300) -/

@[simp] theorem State.peek_mapSession (a : Word) : (s.mapSession g).peek a = s.peek a := by
  rw [State.peek, State.busRead_mapSession, State.peek]

theorem fetchInstr_mapSession :
    fetchInstr (s.mapSession g) = ((fetchInstr s).1, (fetchInstr s).2.mapSession g) := by
  simp only [fetchInstr, fetch8_mapSession, State.peek_mapSession, State.mapSession_cpu]
  split
  · rfl
  · split <;> rfl

theorem retire_mapSession : retire (s.mapSession g) = (retire s).mapSession g := by
  rw [retire_eq_withCpu, retire_eq_withCpu]
  rfl

theorem retireUnlessJammed_mapSession :
    retireUnlessJammed (s.mapSession g) = (retireUnlessJammed s).mapSession g := by
  unfold retireUnlessJammed
  rw [State.mapSession_cpu]
  split
  · rfl
  · exact retire_mapSession g s

/-- No step of the CPU sees the session. -/
theorem cpuStep_mapSession :
    ∃ t, cpuStep s = .next t ∧ cpuStep (s.mapSession g) = .next (t.mapSession g) := by
  cases hj : s.cpu.jammed with
  | true =>
    refine ⟨_, cpuStep_of_jammed hj, ?_⟩
    rw [cpuStep_of_jammed (s := s.mapSession g) hj, ← dummyRead_mapSession]
    rfl
  | false =>
    cases hl : s.cpu.intLatch with
    | some k =>
      refine ⟨_, cpuStep_of_intLatch hj hl, ?_⟩
      rw [cpuStep_of_intLatch (s := s.mapSession g) hj hl, ← retire_mapSession, ← raiseInterrupt_mapSession]
      rfl
    | none =>
      obtain ⟨t, hexec, hexec'⟩ :=
        exec_mapSession g (fetchInstr { s with trace := [] }).2 (fetchInstr { s with trace := [] }).1
      have hfetch := fetchInstr_mapSession g { s with trace := [] }
      have hclear : { s.mapSession g with trace := [] } = State.mapSession g { s with trace := [] } := rfl
      refine ⟨retireUnlessJammed t, ?_, ?_⟩
      · rw [cpuStep_of_fetch hj hl, executeNext, hexec]
      · rw [cpuStep_of_fetch (s := s.mapSession g) hj hl, hclear, executeNext, hfetch, hexec',
          ← retireUnlessJammed_mapSession]

end

/-! ## The ticks (R330, R331) -/

/-- The change of the session leaves alone what is added to the events. -/
def Session.KeepsEvents (g : Session → Session) : Prop :=
  ∀ (c : Session) (e : HostEvent), g { c with events := e :: c.events } = { g c with events := e :: (g c).events }

section

variable {g : Session → Session} (hg : Session.KeepsEvents g) (s : State)
include hg

theorem emit_mapSession (e : HostEvent) : (s.mapSession g).emit e = (s.emit e).mapSession g :=
  congrArg (fun c => { s with session := c }) (hg s.session e).symm

theorem tickVic_mapSession : tickVic (s.mapSession g) = (tickVic s).mapSession g := by
  unfold tickVic
  dsimp only
  rw [show (s.mapSession g).vic = s.vic from rfl, State.mapSession_params]
  split
  · exact emit_mapSession hg { s with vic := _ } _
  · rfl

theorem tickSid_mapSession : tickSid (s.mapSession g) = (tickSid s).mapSession g := by
  unfold tickSid
  dsimp only
  rw [show (s.mapSession g).sid = s.sid from rfl, State.mapSession_params]
  split
  · exact emit_mapSession hg { s with sid := _ } _
  · rfl

theorem tickCycle_mapSession : tickCycle (s.mapSession g) = (tickCycle s).mapSession g := by
  rw [tickCycle, chipsetTick, tickVic_mapSession hg,
    show tickCias ((tickVic s).mapSession g) = (tickCias (tickVic s)).mapSession g from rfl, tickSid_mapSession hg]
  rfl

theorem payCycle_mapSession (bound : Nat) : payCycle bound (s.mapSession g) = (payCycle bound s).mapSession g := by
  induction bound generalizing s with
  | zero => exact tickCycle_mapSession hg s
  | succ bound ih =>
    rw [payCycle, payCycle, tickCycle_mapSession hg, show (s.mapSession g).steal = s.steal from rfl]
    split
    · exact ih _
    · rfl

theorem tickFor_mapSession (n : Nat) : tickFor n (s.mapSession g) = (tickFor n s).mapSession g := by
  induction n generalizing s with
  | zero => rfl
  | succ n ih => rw [tickFor, payCycle_mapSession hg, ih, tickFor]

/-- An iteration looks at the session only in what follows at the boundary. -/
theorem iterate_mapSession : ∃ t, ∀ after, iterate after s = .next (after t) ∧
    iterate after (s.mapSession g) = .next (after (t.mapSession g)) := by
  have hpaid : payOwed (s.mapSession g) = (payOwed s).mapSession g :=
    congrArg (fun u : State => { u with owed := 0 }) (tickFor_mapSession hg s s.owed)
  obtain ⟨t, hstep, hstep'⟩ := cpuStep_mapSession g (payOwed s)
  refine ⟨tickFor t.trace.length t, fun after => ⟨by rw [iterate, hstep], ?_⟩⟩
  rw [iterate, hpaid, hstep', ← tickFor_mapSession hg]
  rfl

end

end Sys2Proof.Machine

namespace Sys2Proof.Machine

/-! # A Monitor line at the boundary (60_exceptions.md R380 to R384; 20_memory.md R77) -/

/-- An iteration keeps the session but for the events that its ticks add, up to what follows at the boundary. -/
theorem session_of_iterate {s t : State} (h : iterate id s = .next t) :
    t.session = { s.session with events := t.session.events } := by
  let g : Session → Session := fun c => { s.session with events := c.events }
  obtain ⟨u, hu⟩ := iterate_mapSession (g := g) (fun _ _ => rfl) s
  have hsame : u = u.mapSession g := Host.Outcome.next.inj ((hu id).1.symm.trans (hu id).2)
  obtain rfl : u = t := Host.Outcome.next.inj ((hu id).1.symm.trans h)
  exact congrArg State.session hsame

theorem checkBreakpoints_of_none {s : State} (h : s.session.breakpoints = []) : checkBreakpoints s = s := by
  rw [checkBreakpoints, h]
  rfl

/-- What the machine shows for a dump that enters the Monitor, with the queue it leaves. -/
def Session.afterDump (a : Word) (bytes : List Byte) (c : Session) : Session :=
  { c with
    lifecycle := .inMonitor
    monitor := .awaitingCommand
    resumeWarp := false
    queue := []
    events := .memoryDump a bytes :: c.events }

/-- The boundary of a running machine with a dump in the queue and no breakpoint. -/
theorem boundary_of_dump {s : State} {a : Word} {n : Nat} (hrun : s.session.lifecycle = .running)
    (hqueue : s.session.queue = [.monitor (.memoryDump a n)]) (hmonitor : s.session.monitor = .inactive)
    (hreleased : s.session.released = false) (hbreak : s.session.breakpoints = []) :
    boundary s = s.mapSession (Session.afterDump a (dumpBytes s a n)) := by
  have hbytes : dumpBytes (enterMonitor s) a n = dumpBytes s a n :=
    congrArg (fun f : Word → Byte => (List.range n).map fun k => f (a + BitVec.ofNat 16 k))
      (funext (State.peek_mapSession (fun c => (enterMonitor s).session) s))
  rw [boundary, checkBreakpoints_of_none hbreak, drainQueue, hqueue, drain, hmonitor,
    if_neg MonitorState.noConfusion, hreleased, if_neg Bool.false_ne_true, runHostCmd, monitorLine,
    if_neg MonitorCmd.noConfusion, hrun]
  dsimp only
  rw [runMonitor, hbytes, drain]
  simp [State.emit, State.mapSession, Session.afterDump, enterMonitor, hrun]

/-- Settles O55: the iteration is the same with and without the dump in the queue, which the boundary then runs. -/
theorem monitorDumpShowsLiveMemory : Obligations.MonitorDumpShowsLiveMemory := by
  intro s a n hrun hqueue hmonitor hreleased hbreak
  let clear : Session → Session := fun c => { c with queue := [] }
  obtain ⟨v, hv⟩ := iterate_mapSession (g := clear) (fun _ _ => rfl) s
  have hsession : v.session = { s.session with events := v.session.events } := session_of_iterate (hv id).1
  have hisRunning : s.session.isRunning = true := by rw [Session.isRunning, hrun]; rfl
  have hdump : boundary v = v.mapSession (Session.afterDump a (dumpBytes v a n)) := by
    apply boundary_of_dump <;> rw [hsession] <;> assumption
  have hquiet : boundary (v.mapSession clear) = v.mapSession clear := by
    have hnone : (v.mapSession clear).session.breakpoints = [] := by
      rw [State.mapSession, hsession]
      exact hbreak
    rw [boundary, checkBreakpoints_of_none hnone]
    rfl
  have hstep : step (s.mapSession clear) = .next (v.mapSession clear) := by
    rw [step_of_isRunning (s := s.mapSession clear) hisRunning, (hv boundary).2, hquiet]
  have hstep' : step s = .next (v.mapSession (Session.afterDump a (dumpBytes v a n))) := by
    rw [step_of_isRunning hisRunning, (hv boundary).1, hdump]
  refine ⟨_, _, hstep, hstep', rfl, rfl, rfl, ?_, rfl⟩
  simp only [State.peek_mapSession]
  rfl

end Sys2Proof.Machine

namespace Sys2Proof.Machine

/-! # The table of cycle counts (70_reset_and_hazards.md R420, R421) -/

/-! ## Fetching through the bus (60_exceptions.md R300; 00_scope.md R10) -/

theorem head?_encode_decodeBytes (op b1 b2 : Byte) : (encode (decodeBytes op b1 b2)).head? = some op := by
  obtain ⟨n, hn⟩ := Nat.exists_eq_add_of_le' (opcodeLength_bounds op).1
  rw [encode_decodeBytes_eq_take, hn, List.take_succ_cons, List.head?_cons]

theorem fetch8_trace_length (s : State) : (fetch8 s).2.trace.length = s.trace.length + 1 := by
  have h := congrArg List.length (fetch8_trace s)
  rwa [List.length_map, List.length_cons, List.length_map] at h

/-- The instruction's encoding begins with the byte fetched first, and each byte of it that is fetched is one access. -/
theorem fetchInstr_opcode_accesses (s : State) : ∃ op, (encode (fetchInstr s).1).head? = some op ∧
    (fetchInstr s).2.trace.length = fetchedBytes op + s.trace.length := by
  refine ⟨(fetch8 s).1, ?_⟩
  unfold fetchInstr fetchedBytes
  dsimp only
  split
  · refine ⟨head?_encode_decodeBytes _ _ _, ?_⟩
    simp only [fetch8_trace_length]
    omega
  · obtain hl | hl | hl := opcodeLength_cases (fetch8 s).1
    all_goals
      rw [hl]
      refine ⟨head?_encode_decodeBytes _ _ _, ?_⟩
      simp only [fetch8_trace_length]
      omega

@[simp] theorem fetch8_params (s : State) : (fetch8 s).2.params = s.params := by
  simp [fetch8]

theorem fetchInstr_params (s : State) : (fetchInstr s).2.params = s.params := by
  unfold fetchInstr
  dsimp only
  split
  · simp only [fetch8_params]
  · split <;> simp only [fetch8_params]

/-! ## Every instruction in the cycles of the table -/

/-- The instruction completes in the cycles of its opcode's entry in the table, with the additions of its marks. -/
def TimedByTable (i : Instr) (s : State) : Prop :=
  ∃ op r stored, Completes i op (tableCycles op + extraCycles i s) s r stored

theorem TimedByTable.of_completes {i : Instr} {op : Byte} {cycles : Nat} {s r : State} {stored : List Word}
    (h : Completes i op cycles s r stored) (hentry : cycles = tableCycles op + extraCycles i s) : TimedByTable i s :=
  ⟨op, r, stored, hentry ▸ h⟩

/-- Every entry of the table is the count of accesses its instruction is proved to complete in. -/
theorem timedByTable (i : Instr) {s : State} (hq : s.params.illegalPolicy = .quirk) : TimedByTable i s := by
  cases i with
  | ldaIzx | ldaZp | ldaImm | ldaAbs | ldaZpx =>
    exact .of_completes (completes_of_readOperand rfl rfl (opLda_eq _ s) rfl) rfl
  | ldaIzy | ldaAby | ldaAbx =>
    exact .of_completes (completes_of_readOperand rfl rfl (opLda_eq _ s) (fetched_add_crossed rfl)) rfl
  | ldxImm | ldxZp | ldxAbs | ldxZpy => exact .of_completes (completes_of_readOperand rfl rfl (opLdx_eq _ s) rfl) rfl
  | ldxAby => exact .of_completes (completes_of_readOperand rfl rfl (opLdx_eq _ s) (fetched_add_crossed rfl)) rfl
  | ldyImm | ldyZp | ldyAbs | ldyZpx => exact .of_completes (completes_of_readOperand rfl rfl (opLdy_eq _ s) rfl) rfl
  | ldyAbx => exact .of_completes (completes_of_readOperand rfl rfl (opLdy_eq _ s) (fetched_add_crossed rfl)) rfl
  | staIzx | staZp | staAbs | staIzy | staZpx | staAby | staAbx | stxZp | stxAbs | stxZpy | styZp | styAbs | styZpx =>
    exact .of_completes (completes_of_writeOperand rfl rfl rfl) rfl
  | tax => exact .of_completes (completes_of_dummyPc rfl rfl (opTax_eq s) rfl) rfl
  | tay => exact .of_completes (completes_of_dummyPc rfl rfl (opTay_eq s) rfl) rfl
  | txa => exact .of_completes (completes_of_dummyPc rfl rfl (opTxa_eq s) rfl) rfl
  | tya => exact .of_completes (completes_of_dummyPc rfl rfl (opTya_eq s) rfl) rfl
  | tsx => exact .of_completes (completes_of_dummyPc rfl rfl (opTsx_eq s) rfl) rfl
  | txs => exact .of_completes (completes_of_dummyPc rfl rfl (opTxs_eq s) rfl) rfl
  | pha | php => exact .of_completes (completes_of_push rfl rfl rfl) rfl
  | pla => exact .of_completes (completes_of_pullReads rfl rfl (opPla_eq s) rfl) rfl
  | plp => exact .of_completes (completes_of_pullReads rfl rfl (opPlp_eq s) rfl) rfl
  | clc | sec | cli | sei | clv | cld | sed => exact .of_completes (completes_of_opFlag _ rfl rfl rfl) rfl
  | nop => exact .of_completes (completes_of_dummyPc rfl rfl (opNop_eq s) rfl) rfl
  | brk => exact .of_completes (brkEntersTheIrqHandler s) rfl
  | rti => exact .of_completes (completes_of_dummyReads rfl rfl (opRti_eq s) rfl) rfl
  | jmpAbs => exact .of_completes (completes_of_dummyReads (as := []) rfl rfl rfl rfl) rfl
  | jmpInd w => exact .of_completes (completes_of_dummyReads rfl rfl (opJmpInd_eq w s) rfl) rfl
  | jsr w => exact .of_completes (jsrPushesThePcAndJumps s w).1 rfl
  | rts => exact .of_completes (completes_of_dummyReads rfl rfl (opRts_eq s) rfl) rfl
  | bpl | bmi | bvc | bvs | bcc | bcs | bne | beq => exact .of_completes (completes_of_opBranch rfl rfl rfl).1 rfl
  | adcIzx | adcZp | adcImm | adcAbs | adcZpx =>
    exact .of_completes (completes_of_readOperand rfl rfl (opAdc_eq _ s) rfl) rfl
  | adcIzy | adcAby | adcAbx =>
    exact .of_completes (completes_of_readOperand rfl rfl (opAdc_eq _ s) (fetched_add_crossed rfl)) rfl
  | sbcIzx | sbcZp | sbcImm | sbcAbs | sbcZpx =>
    exact .of_completes (completes_of_readOperand rfl rfl (opSbc_eq _ s) rfl) rfl
  | sbcIzy | sbcAby | sbcAbx =>
    exact .of_completes (completes_of_readOperand rfl rfl (opSbc_eq _ s) (fetched_add_crossed rfl)) rfl
  | cpyImm | cpyZp | cpyAbs | cmpIzx | cmpZp | cmpImm | cmpAbs | cmpZpx | cpxImm | cpxZp | cpxAbs =>
    exact .of_completes (completes_of_readOperand rfl rfl (opCompare_eq _ _ s) rfl) rfl
  | cmpIzy | cmpAby | cmpAbx =>
    exact .of_completes (completes_of_readOperand rfl rfl (opCompare_eq _ _ s) (fetched_add_crossed rfl)) rfl
  | inx => exact .of_completes (completes_of_dummyPc rfl rfl (opInx_eq s) rfl) rfl
  | iny => exact .of_completes (completes_of_dummyPc rfl rfl (opIny_eq s) rfl) rfl
  | dex => exact .of_completes (completes_of_dummyPc rfl rfl (opDex_eq s) rfl) rfl
  | dey => exact .of_completes (completes_of_dummyPc rfl rfl (opDey_eq s) rfl) rfl
  | oraIzx | oraZp | oraImm | oraAbs | oraZpx | andIzx | andZp | andImm | andAbs | andZpx | eorIzx | eorZp | eorImm |
      eorAbs | eorZpx => exact .of_completes (completes_of_readOperand rfl rfl (opLogic_eq _ _ s) rfl) rfl
  | oraIzy | oraAby | oraAbx | andIzy | andAby | andAbx | eorIzy | eorAby | eorAbx =>
    exact .of_completes (completes_of_readOperand rfl rfl (opLogic_eq _ _ s) (fetched_add_crossed rfl)) rfl
  | bitZp | bitAbs => exact .of_completes (completes_of_readOperand rfl rfl (opBit_eq _ s) rfl) rfl
  | aslAcc | rolAcc | lsrAcc | rorAcc => exact .of_completes (completes_of_dummyPc rfl rfl (opShiftA_eq _ s) rfl) rfl
  | aslZp | aslAbs | aslZpx | aslAbx | rolZp | rolAbs | rolZpx | rolAbx | lsrZp | lsrAbs | lsrZpx | lsrAbx | rorZp |
      rorAbs | rorZpx | rorAbx | decZp | decAbs | decZpx | decAbx | incZp | incAbs | incZpx | incAbx =>
    exact .of_completes (completes_of_modify rfl rfl (opModify_eq _ _ s) rfl) rfl
  | sbcImmEB => exact .of_completes (completes_of_readOperand rfl (exec_of_quirk rfl hq) (opSbc_eq _ s) rfl) rfl
  | sloIzx | sloZp | sloAbs | sloIzy | sloZpx | sloAby | sloAbx | rlaIzx | rlaZp | rlaAbs | rlaIzy | rlaZpx | rlaAby
      | rlaAbx | sreIzx | sreZp | sreAbs | sreIzy | sreZpx | sreAby | sreAbx =>
    exact .of_completes (completes_of_opModifyLogic rfl (exec_of_quirk rfl hq) rfl rfl) rfl
  | rraIzx | rraZp | rraAbs | rraIzy | rraZpx | rraAby | rraAbx =>
    exact .of_completes (completes_of_modify rfl (exec_of_quirk rfl hq) (opRra_eq _ s) rfl) rfl
  | dcpIzx | dcpZp | dcpAbs | dcpIzy | dcpZpx | dcpAby | dcpAbx =>
    exact .of_completes (completes_of_modify rfl (exec_of_quirk rfl hq) (opDcp_eq _ s) rfl) rfl
  | iscIzx | iscZp | iscAbs | iscIzy | iscZpx | iscAby | iscAbx =>
    exact .of_completes (completes_of_modify rfl (exec_of_quirk rfl hq) (opIsc_eq _ s) rfl) rfl
  | saxIzx | saxZp | saxAbs | saxZpy =>
    exact .of_completes (completes_of_writeOperand rfl (exec_of_quirk rfl hq) rfl) rfl
  | laxIzx | laxZp | laxAbs | laxZpy =>
    exact .of_completes (completes_of_readOperand rfl (exec_of_quirk rfl hq) (opLax_eq _ s) rfl) rfl
  | laxIzy | laxAby =>
    exact .of_completes (completes_of_readOperand rfl (exec_of_quirk rfl hq) (opLax_eq _ s)
      (fetched_add_crossed rfl)) rfl
  | lasAby =>
    exact .of_completes (completes_of_readOperand rfl (exec_of_quirk rfl hq) (opLas_eq _ s)
      (fetched_add_crossed rfl)) rfl
  | ancImm0B d | ancImm2B d =>
    exact .of_completes (completes_of_registers rfl (exec_of_quirk rfl hq) (opAnc_eq d s) rfl) rfl
  | alrImm d => exact .of_completes (completes_of_registers rfl (exec_of_quirk rfl hq) (opAlr_eq d s) rfl) rfl
  | arrImm d => exact .of_completes (completes_of_registers rfl (exec_of_quirk rfl hq) (opArr_eq d s) rfl) rfl
  | sbxImm d => exact .of_completes (completes_of_registers rfl (exec_of_quirk rfl hq) (opSbx_eq d s) rfl) rfl
  | aneImm d => exact .of_completes (completes_of_countUnstable rfl (exec_of_quirk rfl hq) (opAne_eq d s) rfl) rfl
  | lxaImm d => exact .of_completes (completes_of_countUnstable rfl (exec_of_quirk rfl hq) (opLxa_eq d s) rfl) rfl
  | shaIzy d => exact .of_completes (completes_of_unstableStore (v := s.cpu.a &&& s.cpu.x) (m := .izy d)
      (c := s.cpu) rfl (exec_of_quirk rfl hq) rfl rfl rfl).2 rfl
  | shaAby w => exact .of_completes (completes_of_unstableStore (v := s.cpu.a &&& s.cpu.x) (m := .aby w)
      (c := s.cpu) rfl (exec_of_quirk rfl hq) rfl rfl rfl).2 rfl
  | shxAby w => exact .of_completes (completes_of_unstableStore (v := s.cpu.x) (m := .aby w)
      (c := s.cpu) rfl (exec_of_quirk rfl hq) rfl rfl rfl).2 rfl
  | shyAbx w => exact .of_completes (completes_of_unstableStore (v := s.cpu.y) (m := .abx w)
      (c := s.cpu) rfl (exec_of_quirk rfl hq) rfl rfl rfl).2 rfl
  | tasAby w => exact .of_completes (completes_of_unstableStore (v := s.cpu.a &&& s.cpu.x) (m := .aby w)
      (c := { s.cpu with s := s.cpu.a &&& s.cpu.x }) rfl
      (exec_of_quirk (quirk := opTas (.aby w)) rfl hq) rfl rfl rfl).2 rfl
  | nopZp04 | nopAbs0C | nopZpx14 | nopImp1A | nopAbx1C | nopZpx34 | nopImp3A | nopAbx3C | nopZp44 | nopZpx54 |
      nopImp5A | nopAbx5C | nopZp64 | nopZpx74 | nopImp7A | nopAbx7C | nopImm80 | nopImm82 | nopImm89 | nopImmC2 |
      nopZpxD4 | nopImpDA | nopAbxDC | nopImmE2 | nopZpxF4 | nopImpFA | nopAbxFC =>
    exact .of_completes (NopRow.completes_of_quirk ⟨rfl, rfl, rfl, rfl, rfl⟩ hq).1 rfl
  | jam02 | jam12 | jam22 | jam32 | jam42 | jam52 | jam62 | jam72 | jam92 | jamB2 | jamD2 | jamF2 =>
    exact .of_completes (completes_of_opJam rfl (exec_of_quirk rfl hq) rfl) rfl

/-- Settles O40: the accesses of the fetch and those of the instruction are the cycles in which it completes. -/
theorem cyclesEqualBusAccesses : Obligations.CyclesEqualBusAccesses := by
  intro s i f hquirk hjam hlatch hfetch
  obtain ⟨op, hop, hfetched⟩ := fetchInstr_opcode_accesses { s with trace := [] }
  have hparams := fetchInstr_params { s with trace := [] }
  rw [hfetch] at hop hfetched hparams
  obtain ⟨tl, htl⟩ := List.head?_eq_some_iff.1 hop
  obtain ⟨op', _, _, hop', t, hexec, -, -, hcycles⟩ := timedByTable i (hparams ▸ hquirk)
  obtain rfl : op = op' := Option.some.inj (hop.symm.trans hop')
  refine ⟨op, tl, retireUnlessJammed t, htl, ?_, ?_⟩
  · rw [cpuStep_of_fetch hjam hlatch, executeNext, hfetch]
    dsimp only
    rw [hexec]
  · rw [retireUnlessJammed_trace]
    simp only [List.length_nil] at hfetched hcycles
    omega

end Sys2Proof.Machine

namespace Sys2Proof.Machine

/-! # Warp changes nothing but the lifecycle (70_reset_and_hazards.md R425)

Two machines without host commands stay twins: both run, one of them in warp, or a breakpoint has suspended both and
they differ in the mode a later continue resumes. -/

/-- What warp is to the session of a running machine. -/
def Session.warp (c : Session) : Session := { c with lifecycle := .warpRunning }

/-- What warp leaves in the session when the Monitor suspends the machine. -/
def Session.resumingWarp (c : Session) : Session := { c with resumeWarp := true }

/-- The second machine is in warp, or was when both were suspended; it is the first one in everything else. -/
inductive WarpTwins : State → State → Prop
  | running {s : State} (hrun : s.session.lifecycle = .running) (hqueue : s.session.queue = []) :
    WarpTwins s (s.mapSession Session.warp)
  | suspended {s : State} (hin : s.session.lifecycle = .inMonitor) (hwait : s.session.monitor = .awaitingCommand)
      (hqueue : s.session.queue = []) : WarpTwins s (s.mapSession Session.resumingWarp)

theorem WarpTwins.eraseWarp {s u : State} (h : WarpTwins s u) : s.eraseWarp = u.eraseWarp := by
  cases h with
  | running hrun => simp [State.eraseWarp, State.mapSession, Session.warp, hrun]
  | suspended hin => simp [State.eraseWarp, State.mapSession, Session.resumingWarp, hin]

/-! ## The boundary without host commands (60_exceptions.md R330, R382) -/

theorem drainQueue_of_nil {s : State} (h : s.session.queue = []) : drainQueue s = s := by
  rw [drainQueue, h, drain, ← h]

/-- Some breakpoint or watch suspends the machine at this boundary. -/
def State.breaks (s : State) : Bool :=
  s.session.breakpoints.any fun b => b.stops s || b.watches s

theorem boundary_of_nil {s : State} (h : s.session.queue = []) :
    boundary s = if s.breaks then enterMonitor s else s := by
  rw [boundary, checkBreakpoints, ← State.breaks]
  split <;> exact drainQueue_of_nil h

/-- Suspending the machine in warp leaves the mode to resume as the only trace of it. -/
theorem enterMonitor_warp (s : State) :
    enterMonitor (s.mapSession Session.warp) = (enterMonitor s).mapSession Session.resumingWarp := rfl

/-- A boundary leads running twins to twins: the breakpoints see nothing of warp. -/
theorem WarpTwins.boundary {s : State} (hrun : s.session.lifecycle = .running) (hqueue : s.session.queue = []) :
    WarpTwins (boundary s) (boundary (s.mapSession Session.warp)) := by
  rw [boundary_of_nil hqueue, boundary_of_nil (s := s.mapSession Session.warp) hqueue,
    show (s.mapSession Session.warp).breaks = s.breaks from rfl]
  split
  · rw [enterMonitor_warp]
    exact .suspended rfl rfl hqueue
  · exact .running hrun hqueue

/-! ## A step and a run -/

/-- A step leads twins to twins. -/
theorem WarpTwins.step {s u : State} (h : WarpTwins s u) :
    ∃ s' u', step s = .next s' ∧ step u = .next u' ∧ WarpTwins s' u' := by
  cases h with
  | running hrun hqueue =>
    obtain ⟨t, ht⟩ := iterate_mapSession (g := Session.warp) (fun _ _ => rfl) s
    have hsession : t.session = { s.session with events := t.session.events } := session_of_iterate (ht id).1
    have hisRunning : s.session.isRunning = true := by rw [Session.isRunning, hrun]; rfl
    refine ⟨_, _, (step_of_isRunning hisRunning).trans (ht _).1, (step_of_isRunning rfl).trans (ht _).2, ?_⟩
    apply WarpTwins.boundary <;> rw [hsession] <;> assumption
  | suspended hin hwait hqueue =>
    have hidle {v : State} (hin : v.session.lifecycle = .inMonitor) (hwait : v.session.monitor = .awaitingCommand)
        (hqueue : v.session.queue = []) : Machine.step v = .next v := by
      rw [Machine.step, runLoop, hin, hwait]
      exact congrArg Host.Outcome.next (drainQueue_of_nil hqueue)
    exact ⟨s, _, hidle hin hwait hqueue, hidle hin hwait hqueue, .suspended hin hwait hqueue⟩

theorem run_succ_of_step {s t : State} (h : step s = .next t) (n : Nat) :
    Host.Core.run core (n + 1) s = Host.Core.run core n t := by
  have hcore : core.step s = .next t := h
  simp only [Host.Core.run, hcore]

theorem WarpTwins.run (n : Nat) {s u : State} (h : WarpTwins s u) :
    ∃ s' u', Host.Core.run core n s = .next s' ∧ Host.Core.run core n u = .next u' ∧ WarpTwins s' u' := by
  induction n generalizing s u with
  | zero => exact ⟨s, u, rfl, rfl, h⟩
  | succ n ih =>
    obtain ⟨s₁, u₁, hs, hu, h₁⟩ := h.step
    obtain ⟨s₂, u₂, hs', hu', h₂⟩ := ih h₁
    exact ⟨s₂, u₂, (run_succ_of_step hs n).trans hs', (run_succ_of_step hu n).trans hu', h₂⟩

/-- Settles O54: the machine and the machine in warp are twins, and so is what any run leads them to. -/
theorem warpChangesNothingButTheLifecycle : Obligations.WarpChangesNothingButTheLifecycle := by
  intro n s hrun hqueue
  obtain ⟨t, u, ht, hu, htwins⟩ := (WarpTwins.running hrun hqueue).run n
  exact ⟨t, u, ht, hu, htwins.eraseWarp⟩

end Sys2Proof.Machine
